-- ==== Sys2Proof/Word.lean ====
section
/-! DEFINITION. The words of the TB6404: sample words, sample numbers, ticks, host addresses and bytes, and the
numbers that name watches, Capture Slots and Request Table tags. -/

namespace Sys2Proof

/-- One byte of a record. -/
abbrev Byte := BitVec 8

/-- A 32-bit sample word, pattern, buffer tag or register value. -/
abbrev Word := BitVec 32

/-- A 48-bit sample number: it wraps from 2^48 − 1 to 0 (manual, Conventions). -/
abbrev SampleNo := BitVec 48

/-- A 48-bit tick value of the Timebase (R51, R52). -/
abbrev Tick := BitVec 48

/-- A 64-bit host address; addresses are formed modulo 2^64 (R149). -/
abbrev Addr := BitVec 64

/-- A watch id, 0–63 (R1). -/
abbrev WatchId := Fin 64

/-- A Capture Slot number, 0–3 (R67). -/
abbrev SlotId := Fin 4

/-- A Request Table tag, 0–7 (R150). -/
abbrev Tag := Fin 8

/-- The bytes a read can deliver: at most 64 (R149). Byte `i` of the read stands in bits `8*i+7` to `8*i`. -/
abbrev ReadData := BitVec 512

end Sys2Proof
end

