-- ==== Sys2Proof/Syntax.lean ====
section
/-! DEFINITION. The commands of the TB6404: one constructor for each row of the table of operations and events.
A command is one whole, indivisible step of the part: something that reaches it from outside (a sample clock edge, a
register write, a Host Link response, a pin, a REFCLK period), or something one of its blocks takes. -/

namespace Sys2Proof

/-- The answer a Host Link response carries (chapter 8). -/
inductive Answer where
  | ok
  | error
  deriving DecidableEq, Repr

/-- A Host Link response: a tag, an answer and, for a read answered OK, the bytes read (chapter 8, R155). `data` is
looked at only where a read is answered OK, and only as far as the size of that read. -/
structure Response where
  tag : Tag
  answer : Answer
  data : ReadData
  deriving DecidableEq, Repr

/-- The three registers of the window whose writes REGISTER_WRITE covers (Table 9-1). -/
inductive PlainRegister where
  | setupLo
  | setupHi
  | status
  deriving DecidableEq, Repr

/-- How far a SAMPLE_EVALUATION comes before another command is taken. -/
inductive EvaluationExtent where
  /-- The evaluation runs to its close in this command. -/
  | whole
  /-- The evaluation begins, and an event at another block comes before its close (R50). -/
  | begins
  deriving DecidableEq, Repr

/-- One constructor for each row of the table. -/
inductive Instr where
  /-- SAMPLE_ARRIVAL: a rising edge of SCLK with this word on SD0 to SD31 (R54, R55). DESIGN CHOICE (log entry 18): where
  setup or hold time is not met, R187 leaves open which level each bit holds; the operand is the word as its bits have
  settled, and the sender chooses it. -/
  | sampleArrival (word : Word)
  /-- SAMPLE_EVALUATION: the Watch Engine takes the presented sample (R24). -/
  | sampleEvaluation (extent : EvaluationExtent)
  /-- START_OF_RUN_NOTICE: the Watch Engine takes the waiting notice (R48). -/
  | startOfRunNotice
  /-- EXPIRY_RAISED: the window timer of a watch raises its expiry (R43). -/
  | expiryRaised (w : WatchId)
  /-- WINDOW_EXPIRY: the Watch Engine takes the raised expiry of a watch (R44). -/
  | windowExpiry (w : WatchId)
  /-- CQ_READ_RESPONSE: a Host Link response, the one that answers the CQ read (R137). -/
  | cqReadResponse (r : Response)
  /-- NOP: the OK response that brings a NOP record, which the Command Unit completes at the take (R142). -/
  | nop (tag : Tag) (record : ReadData)
  /-- LOAD: the Watch Engine takes the dispatched LOAD (R10, R11). -/
  | load
  /-- ARM: the Watch Engine takes the dispatched ARM (R14). -/
  | arm
  /-- DISARM: the Watch Engine takes the dispatched DISARM (R15). -/
  | disarm
  /-- FREE: the Watch Engine takes the dispatched FREE (R17). -/
  | free
  /-- SNAPSHOT: the Watch Engine takes the dispatched SNAPSHOT (R21). -/
  | snapshot
  /-- START: the Acquisition Unit takes in the dispatched START (R60). -/
  | start
  /-- START_TAKEN: a held START whose conditions hold is taken (R61). -/
  | startTaken
  /-- STOP: the Acquisition Unit takes the dispatched STOP (R62). -/
  | stop
  /-- CANCEL: the Capture Unit takes the dispatched CANCEL (R86). -/
  | cancel
  /-- SNAPSHOT_WRITE_RESPONSE: a Host Link response, the one that answers the snapshot write (R143). -/
  | snapshotWriteResponse (r : Response)
  /-- GRANT: the Memory Port makes one grant (R151, R152). -/
  | grant
  /-- BURST_WRITE_RESPONSE: a Host Link response, the one that answers a burst (R80). -/
  | burstWriteResponse (r : Response)
  /-- BQ_READ_RESPONSE: a Host Link response, the one that answers the BQ read (R102). -/
  | bqReadResponse (r : Response)
  /-- SETUP_READ_RESPONSE: a Host Link response, the one that answers the Setup Block read (R169). -/
  | setupReadResponse (r : Response)
  /-- LATE_RESPONSE: a Host Link response whose tag names a STALE or FREE entry (R155). -/
  | lateResponse (r : Response)
  /-- RESPONSE_LIMIT_EXPIRY: the Memory Port takes the expiry of the entry with this tag (R157). -/
  | responseLimitExpiry (tag : Tag)
  /-- EVENT_CHOICE: the Event Writer makes a choice (R111, R112). -/
  | eventChoice
  /-- EQ_WRITE_RESPONSE: a Host Link response, the one that answers the EQ write (R116). -/
  | eqWriteResponse (r : Response)
  /-- HOLDOFF_EXPIRY: the Event Writer takes the expiry of the holdoff timer (R124). -/
  | holdoffExpiry
  /-- CQ_TAIL_WRITE: a write of a value to CQ_TAIL (R134, R183). -/
  | cqTailWrite (value : Word)
  /-- BQ_TAIL_WRITE: a write of a value to BQ_TAIL (R98, R183). -/
  | bqTailWrite (value : Word)
  /-- EQ_HEAD_WRITE: a write of a value to EQ_HEAD (R119, R183). -/
  | eqHeadWrite (value : Word)
  /-- INTERRUPT_WRITE: a write of a value to INTERRUPT (R126). -/
  | interruptWrite (value : Word)
  /-- ENABLE: a write to CONTROL with ENABLE 1 and RESET 0 (R164, R168). -/
  | enable (value : Word)
  /-- DISABLE: a write to CONTROL with ENABLE 0 and RESET 0 (R164, R173). -/
  | disable (value : Word)
  /-- SOFT_RESET: a write to CONTROL with RESET 1 (R164, R174). -/
  | softReset (value : Word)
  /-- REGISTER_WRITE: a write to SETUP_LO, SETUP_HI or STATUS (R163, R165). -/
  | registerWrite (reg : PlainRegister) (value : Word)
  /-- RESET_PIN_ASSERTED: RESETN has been low for this many REFCLK periods (R178, R187). -/
  | resetPinAsserted (lowPeriods : Nat)
  /-- RESET_PIN_RELEASED: RESETN returns high (R178, R187). -/
  | resetPinReleased
  /-- REFCLK_TICK: one period of REFCLK (R51). -/
  | refclkTick
  deriving DecidableEq, Repr

end Sys2Proof
end

