-- ==== Sys2Proof/Decode.lean ====
section
/-! DEFINITION. The table of operations and events gives no row any bits: no word spells a command of the TB6404.
(The records that do carry bits, command records, descriptors and the Setup Block, reach the part as the bytes of Host Link
responses; Sys2Proof/Machine/Operands.lean reads them.) -/

namespace Sys2Proof

/-- The command a word spells by the table's bits: none, since no row of the table gives bits. -/
def decodeTableWord (_nbits _w : Nat) : Option Instr := none

end Sys2Proof
end

