-- ==== Sys2Proof/Config.lean ====
section
/-! DEFINITION. The fixed sizes and limits of the TB6404. The manual leaves no value of the part to an
implementation, so there is no constant without a body here. -/

namespace Sys2Proof.Config

/-- Entries of the History Ring (R57). -/
abbrev ringDepth : Nat := 2048

/-- Descriptors the Buffer Cache can hold (R104). -/
abbrev cacheDepth : Nat := 4

/-- Records a slot's burst list can hold (R77). -/
abbrev burstListDepth : Nat := 8

/-- Entries one burst can carry (R78). -/
abbrev burstEntries : Nat := 16

/-- The start-up response limit, in ticks, set at the entry into STARTING and at power-on reset (R156). -/
abbrev startUpLimit : Nat := 16777215

/-- Greatest skip, holdoff and response limit (Table 1-1, R170). -/
abbrev max24 : Nat := 16777215

/-- Greatest pre count (R3). -/
abbrev maxPre : Nat := 1024

/-- Greatest capacity of a buffer, in entries (R103). -/
abbrev maxCapacity : Nat := 1048576

/-- The unreported fire count saturates here (R4). -/
abbrev maxFireCount : Nat := 4294967295

/-- The missed capture count saturates here (R4). -/
abbrev maxMissed : Nat := 255

/-- REFCLK periods within which the evaluation of a sample ends, from its acceptance (R187). -/
abbrev evaluationPeriods : Nat := 8

/-- REFCLK periods a low level on RESETN must last to be an assertion (R187). -/
abbrev resetPeriods : Nat := 16

end Sys2Proof.Config
end

