-- ==== Sys2Proof/Machine/State.lean ====
section
/-! DEFINITION. Everything the manual gives the TB6404 to hold, block by block (Table 1 of the description), as plain
data, and the state right after power-on reset. -/

namespace Sys2Proof.Machine

/-! ### Watch Table (chapter 1) -/

/-- The test a watch applies to each sample (Table 1-1). -/
inductive TestKind where
  /-- MATCH -/
  | masked
  /-- RANGE -/
  | range
  deriving DecidableEq, Repr

/-- Which change of the test result is an occurrence (R28). -/
inductive Sense where
  | level
  | enter
  | leave
  deriving DecidableEq, Repr

/-- Whether the first fire ends the watch (R34). -/
inductive Mode where
  | single
  | repeated
  deriving DecidableEq, Repr

/-- The configuration of a watch context (Table 1-1). -/
structure WatchConfig where
  test : TestKind
  mask : Word
  value : Word
  fieldOffset : Nat
  fieldWidth : Nat
  low : Nat
  high : Nat
  sense : Sense
  mode : Mode
  skip : Nat
  window : Nat
  predecessor : Option WatchId
  relatch : Bool
  capture : Bool
  pre : Nat
  post : Nat
  halt : Bool
  deriving DecidableEq, Repr

/-- The lifecycle state of a watch (1.3). -/
inductive WatchState where
  | free
  | idle
  | pending
  | live
  | done
  deriving DecidableEq, Repr

/-- The test result of the last sample evaluated since entry into LIVE (Table 1-2). -/
inductive PrevResult where
  | unknown
  | isFalse
  | isTrue
  deriving DecidableEq, Repr

/-- Why a watch entered DONE (Table 1-2). -/
inductive EndReason where
  | none
  | fired
  | expired
  | windowEnd
  | disarmed
  deriving DecidableEq, Repr

/-- One watch context: the configuration and the dynamic fields of Table 1-2. `expiryRaised` says that the window timer
has raised its expiry and the Watch Engine has not yet taken it (R43). -/
structure Watch where
  config : WatchConfig
  state : WatchState
  skipRemaining : Nat
  previous : PrevResult
  windowExpiry : Option Tick
  expiryRaised : Bool
  fireCount : Nat
  firstFire : Option SampleNo
  lastFire : Option SampleNo
  lastFireTick : Tick
  missed : Nat
  endReason : EndReason
  deriving DecidableEq, Repr

/-- A sample presented to the Watch Engine whose evaluation has not closed (R23, R56). -/
structure PresentedSample where
  number : SampleNo
  data : Word
  arrivalTick : Tick
  deriving DecidableEq, Repr

/-- The Watch Engine: the Watch Table (R1), the Report List (R18), the last evaluated sample (R5), the presented sample
that waits for its evaluation (R23) and the start-of-run notice that waits to be taken (R48). A sample is outstanding
(R56) exactly while `presented` holds it: see `State.sampleOutstanding`. `begun` says that the evaluation of the presented
sample has begun and has not closed (R50). -/
structure WatchEngine where
  watches : Vector Watch 64
  reportList : List WatchId
  lastEvaluated : Option SampleNo
  presented : Option PresentedSample
  begun : Bool
  noticeWaiting : Bool
  deriving DecidableEq, Repr

/-! ### Acquisition Unit (chapter 3) -/

/-- Whether sample clock edges are accepted (R53). -/
inductive AcqState where
  | idle
  | running
  deriving DecidableEq, Repr

/-- One entry of the History Ring (R57). -/
structure RingEntry where
  data : Word
  tickLow : Word
  deriving DecidableEq, Repr

/-- The pending ACQ_HALT record (R65). -/
structure HaltRecord where
  watch : WatchId
  sample : SampleNo
  deriving DecidableEq, Repr

/-- The Acquisition Unit. `ring` lists positions with their entries in the canonical form of `ringWf`. `heldStart` says
that a START is held (R60). -/
structure Acquisition where
  state : AcqState
  sampleCounter : SampleNo
  heldCount : Nat
  ring : List (Nat × RingEntry)
  pendingHalt : Option HaltRecord
  heldStart : Bool
  deriving DecidableEq, Repr

/-! ### Capture Unit (chapter 4) and Buffer Fetcher (chapter 5) -/

/-- A checked buffer descriptor (R103). -/
structure Descriptor where
  address : Addr
  capacity : Nat
  tag : Word
  deriving DecidableEq, Repr

/-- The lifecycle state of a Capture Slot (R67). -/
inductive SlotState where
  | free
  | filling
  | closing
  | posting
  deriving DecidableEq, Repr

/-- The six capture statuses (R89). A pending end status of NONE is `none` of `Option CaptureStatus`. -/
inductive CaptureStatus where
  | complete
  | clipped
  | truncated
  | overrun
  | aborted
  | writeError
  deriving DecidableEq, Repr

/-- The answer a burst has had (Table 4-1). -/
inductive BurstAnswer where
  | waiting
  | ok
  | error
  deriving DecidableEq, Repr

/-- One record of a burst list (R77, R78). `tag` is the model's own field: the Request Table tag the burst was granted,
by which its answer finds the record. -/
structure BurstRecord where
  count : Nat
  answer : BurstAnswer
  tag : Tag
  deriving DecidableEq, Repr

/-- One Capture Slot: the fields of Table 4-1. -/
structure Slot where
  state : SlotState
  watch : WatchId
  buffer : Addr
  capacity : Nat
  bufferTag : Word
  trigger : SampleNo
  windowStart : SampleNo
  windowEnd : SampleNo
  clipped : Bool
  flushing : Bool
  nextToCopy : SampleNo
  requestStanding : Bool
  leading : Nat
  bursts : List BurstRecord
  outstanding : Nat
  status : Option CaptureStatus
  deriving DecidableEq, Repr

/-- The statuses of a CMD_DONE (R182). -/
inductive CmdStatus where
  | ok
  | badKind
  | badWatch
  | badSlot
  | wrongState
  | badField
  | noPredecessor
  | chainLoop
  | hasSuccessor
  | already
  | notActive
  | writeError
  deriving DecidableEq, Repr

/-- A CANCEL in progress: the slots it still waits for and the status fixed at the take (R86, R87). -/
structure CancelProgress where
  targets : List SlotId
  status : CmdStatus
  deriving DecidableEq, Repr

/-- The Capture Unit: the Capture Slots, the Buffer Cache, the run-end mark (R75) and the CANCEL in progress. -/
structure CaptureUnit where
  slots : Vector Slot 4
  cache : List Descriptor
  runEndMark : Option SampleNo
  cancelling : Option CancelProgress
  deriving DecidableEq, Repr

/-- The fetch state (chapter 5). -/
inductive FetchState where
  | idle
  | requested
  | reading
  deriving DecidableEq, Repr

/-- Why a descriptor was rejected (R103). -/
inductive RejectReason where
  | zeroCapacity
  | overCapacity
  | misaligned
  deriving DecidableEq, Repr

/-- A record of the Rejection List (R105). -/
structure Rejection where
  tag : Word
  reason : RejectReason
  bqIndex : Nat
  deriving DecidableEq, Repr

/-- The read in flight: its first BQ index and its length (R101). -/
structure Batch where
  first : Nat
  length : Nat
  deriving DecidableEq, Repr

/-- The Buffer Fetcher. The BQ has `2 ^ sizeCode` descriptors (R97). -/
structure Fetcher where
  base : Addr
  sizeCode : Nat
  head : Nat
  tail : Nat
  fetch : FetchState
  batch : Option Batch
  rejections : List Rejection
  deriving DecidableEq, Repr

/-! ### Command Unit (chapter 7) -/

/-- The state of a block's one Host Link request. -/
inductive LinkState where
  | none
  | standing
  | outstanding
  deriving DecidableEq, Repr

/-- The command state (Table 7-2). -/
inductive CommandState where
  | idle
  | fetching
  | executing
  | posting
  deriving DecidableEq, Repr

/-- The nine command kinds (Table 7-1). -/
inductive CommandKind where
  | nop
  | load
  | arm
  | disarm
  | free
  | snapshot
  | start
  | stop
  | cancel
  deriving DecidableEq, Repr

/-- A command record with its fields as read (Table 10-2). -/
structure CommandRecord where
  kind : Byte
  watchId : Byte
  tag : BitVec 16
  slot : Byte
  test : Byte
  sense : Byte
  mode : Byte
  mask : Word
  value : Word
  fieldOffset : Byte
  fieldWidth : Byte
  predecessor : Byte
  options : Byte
  low : Word
  high : Word
  skip : Word
  window : Word
  pre : BitVec 16
  post : BitVec 16
  snapshotAddress : Addr
  deriving DecidableEq, Repr

/-- The current command: the record taken and its CQ head after the take (R137). -/
structure CurrentCommand where
  record : CommandRecord
  headAfter : Nat
  deriving DecidableEq, Repr

/-- The snapshot content of R22. -/
structure SnapshotContent where
  watch : WatchId
  asOf : Option SampleNo
  state : WatchState
  previous : PrevResult
  skipRemaining : Nat
  windowRemaining : Option Nat
  fireCount : Nat
  firstFire : Option SampleNo
  lastFire : Option SampleNo
  missed : Nat
  endReason : EndReason
  test : TestKind
  sense : Sense
  mode : Mode
  skip : Nat
  window : Nat
  predecessor : Option WatchId
  relatch : Bool
  capture : Bool
  halt : Bool
  deriving DecidableEq, Repr

/-- The content of a CMD_DONE (R141). -/
structure CmdDone where
  tag : BitVec 16
  kind : Byte
  status : CmdStatus
  headAfter : Nat
  detail : Option Byte
  deriving DecidableEq, Repr

/-- The Command Unit. The CQ has `2 ^ sizeCode` records (R133). -/
structure CommandUnit where
  base : Addr
  sizeCode : Nat
  head : Nat
  tail : Nat
  state : CommandState
  link : LinkState
  current : Option CurrentCommand
  snapshot : Option SnapshotContent
  held : Option CmdDone
  deriving DecidableEq, Repr

/-! ### Event Writer (chapter 6) -/

/-- The content of a WATCH_REPORT (R19). -/
structure WatchReport where
  watch : WatchId
  final : Bool
  endReason : EndReason
  fireCount : Nat
  firstFire : Option SampleNo
  lastFire : Option SampleNo
  lastFireTick : Tick
  missed : Nat
  deriving DecidableEq, Repr

/-- The content of a CAPTURE_DONE (R92). -/
structure CaptureDone where
  slot : SlotId
  watch : WatchId
  bufferTag : Word
  status : CaptureStatus
  trigger : SampleNo
  firstSample : SampleNo
  entryCount : Nat
  deriving DecidableEq, Repr

/-- The content of an event, under the kind its one source gives it (R110). -/
inductive EventContent where
  | captureDone (c : CaptureDone)
  | acqHalt (h : HaltRecord)
  | cmdDone (c : CmdDone)
  | bufferReject (r : Rejection)
  | watchReport (r : WatchReport)
  deriving DecidableEq, Repr

/-- The event in flight: target index, phase, event tick, and the kind and content of the item (R112). -/
structure InFlight where
  index : Nat
  phase : Bool
  eventTick : Tick
  content : EventContent
  deriving DecidableEq, Repr

/-- The INTERRUPT register: two status bits and two mask bits (R126). -/
structure Interrupt where
  events : Bool
  fault : Bool
  eventsMask : Bool
  faultMask : Bool
  deriving DecidableEq, Repr

/-- The Event Writer. The EQ has `2 ^ sizeCode` records (R109). `holdoffTimer` is the expiry tick of a RUNNING holdoff
timer. `lapParity` is 1 when true. `keptCompletion` is the item that the source held CMD_DONE keeps, frozen, once the part
has left ENABLED (R130, R131). DESIGN CHOICE (log entry 17): a field apart from the Command Unit's held completion, which is
then absent (R146). -/
structure EventWriter where
  base : Addr
  sizeCode : Nat
  tail : Nat
  head : Nat
  lapParity : Bool
  inFlight : Option InFlight
  request : LinkState
  moderation : Nat
  holdoffTimer : Option Tick
  threshold : Nat
  holdoff : Nat
  interrupt : Interrupt
  keptCompletion : Option CmdDone
  deriving DecidableEq, Repr

/-! ### Memory Port (chapter 8) -/

/-- The eight requesters of the Memory Port (R149). -/
inductive Requester where
  | control
  | command
  | fetcher
  | writer
  | slot (i : SlotId)
  deriving DecidableEq, Repr

/-- An entry of the Request Table (R150). -/
inductive PortEntry where
  | free
  | active (owner : Requester) (size : Nat) (expiry : Option Tick)
  | stale (size : Nat) (expiry : Option Tick)
  deriving DecidableEq, Repr

/-- The kind of a Host Link master request. -/
inductive LinkKind where
  | read
  | write
  deriving DecidableEq, Repr

/-- A request issued on the Host Link: kind, address, size in bytes and tag, and for a write its data. -/
structure LinkRequest where
  tag : Tag
  kind : LinkKind
  address : Addr
  size : Nat
  data : List Byte
  deriving DecidableEq, Repr

/-- The Memory Port. `issued` is the model's own field: every request issued on the Host Link since the last pin reset,
in grant order, the oldest first (R152). -/
structure MemoryPort where
  entries : Vector PortEntry 8
  grantPointer : Requester
  limitInForce : Nat
  issued : List LinkRequest
  deriving DecidableEq, Repr

/-! ### Control Unit (chapter 9) -/

/-- The device state (Table 9-2). -/
inductive DeviceState where
  | disabled
  | starting
  | enabled
  | faulted
  | stopping
  | resetting
  deriving DecidableEq, Repr

/-- The fault code (9.4). -/
inductive FaultCode where
  | none
  | setupRead
  | setupInvalid
  | cqRead
  | bqRead
  | eqWrite
  | cqTailRange
  | bqTailRange
  | eqHeadRange
  deriving DecidableEq, Repr

/-- The nine values of a Setup Block (R170). -/
structure Setup where
  cqBase : Addr
  bqBase : Addr
  eqBase : Addr
  cqSizeCode : Nat
  bqSizeCode : Nat
  eqSizeCode : Nat
  threshold : Nat
  holdoff : Nat
  responseLimit : Nat
  deriving DecidableEq, Repr

/-- The Control Unit. -/
structure Control where
  device : DeviceState
  enable : Bool
  setupAddress : Addr
  setupRequest : LinkState
  checkedSetup : Option Setup
  faultCode : FaultCode
  multi : Bool
  deriving DecidableEq, Repr

/-! ### The machine -/

/-- The TB6404. `pending` is the model's own queue of commands that wait, first in, first out. `resetAsserted` says that
RESETN is asserted (R178); `tick` is the Timebase (R51). -/
structure State where
  pending : List Instr
  resetAsserted : Bool
  tick : Tick
  ctl : Control
  acq : Acquisition
  eng : WatchEngine
  cap : CaptureUnit
  fetch : Fetcher
  cmd : CommandUnit
  evt : EventWriter
  port : MemoryPort
  deriving DecidableEq, Repr

/-- Reasons the machine stops with a fault: none. The manual gives every event in every state an outcome (a change, a
refusal status in a record, an ignored access, a discarded response, or the part's own FAULTED state), so no command ends
a run. -/
inductive Fault where
  deriving DecidableEq, Repr

/-- Reasons a command is refused by the model. -/
inductive Refusal where
  /-- Raised by no meaning of this model: every row of the table has its meaning. Safe: a refused command proves
  nothing about the part. -/
  | notModelled (mnemonic : String)
  deriving DecidableEq, Repr

/-! ### Values at reset -/

/-- The configuration of a FREE context (R2). -/
def WatchConfig.freeValues : WatchConfig where
  test := .masked
  mask := 0
  value := 0
  fieldOffset := 0
  fieldWidth := 0
  low := 0
  high := 0
  sense := .level
  mode := .single
  skip := 0
  window := 0
  predecessor := none
  relatch := false
  capture := false
  pre := 0
  post := 0
  halt := false

/-- A FREE context (R2, R6). -/
def Watch.freeContext : Watch where
  config := .freeValues
  state := .free
  skipRemaining := 0
  previous := .unknown
  windowExpiry := none
  expiryRaised := false
  fireCount := 0
  firstFire := none
  lastFire := none
  lastFireTick := 0
  missed := 0
  endReason := .none

/-- The Watch Engine after power-on reset, soft reset and disable (R6, R50). -/
def WatchEngine.cleared : WatchEngine where
  watches := Vector.replicate 64 .freeContext
  reportList := []
  lastEvaluated := none
  presented := none
  begun := false
  noticeWaiting := false

/-- A FREE slot (Table 4-1). -/
def Slot.freeSlot : Slot where
  state := .free
  watch := 0
  buffer := 0
  capacity := 0
  bufferTag := 0
  trigger := 0
  windowStart := 0
  windowEnd := 0
  clipped := false
  flushing := false
  nextToCopy := 0
  requestStanding := false
  leading := 0
  bursts := []
  outstanding := 0
  status := none

/-- The Capture Unit after power-on reset, soft reset and disable (R96, R108). -/
def CaptureUnit.cleared : CaptureUnit where
  slots := Vector.replicate 4 .freeSlot
  cache := []
  runEndMark := none
  cancelling := none

/-- The machine right after power-on reset, RESETN released (R178, R179, R6, R66, R96, R108, R132, R148, R162). DESIGN
CHOICE (log entry 1): bases, size codes, threshold and holdoff, which the manual gives no reset value, are 0. -/
def State.reset : State where
  pending := []
  resetAsserted := false
  tick := 0
  ctl :=
    { device := .disabled, enable := false, setupAddress := 0, setupRequest := .none, checkedSetup := none,
      faultCode := .none, multi := false }
  acq :=
    { state := .idle, sampleCounter := 0, heldCount := 0, ring := [], pendingHalt := none, heldStart := false }
  eng := .cleared
  cap := .cleared
  fetch := { base := 0, sizeCode := 0, head := 0, tail := 0, fetch := .idle, batch := none, rejections := [] }
  cmd :=
    { base := 0, sizeCode := 0, head := 0, tail := 0, state := .idle, link := .none, current := none,
      snapshot := none, held := none }
  evt :=
    { base := 0, sizeCode := 0, tail := 0, head := 0, lapParity := true, inFlight := none, request := .none,
      moderation := 0, holdoffTimer := none, threshold := 0, holdoff := 0,
      interrupt := { events := false, fault := false, eventsMask := false, faultMask := false }
      keptCompletion := none }
  port :=
    { entries := Vector.replicate 8 .free, grantPointer := .slot 3, limitInForce := Config.startUpLimit,
      issued := [] }

end Sys2Proof.Machine
end

