-- ==== Sys2Proof/Machine/Flags.lean ====
section
/-! DEFINITION. The status bits: INTERRUPT and INTN (R126, R129), and what a read of each register of the window returns
(R163 to R166, R183, Table 10-13). -/

namespace Sys2Proof.Machine

/-! ### INTERRUPT and INTN -/

/-- A write to INTERRUPT: each status bit written as 1 is cleared, and each mask takes the value written (R126, R183). -/
def Interrupt.write (v : Word) (i : Interrupt) : Interrupt where
  events := i.events && !v.getLsbD 0
  fault := i.fault && !v.getLsbD 1
  eventsMask := v.getLsbD 8
  faultMask := v.getLsbD 9

/-- INTN is asserted, low (R129). -/
def Interrupt.asserted (i : Interrupt) : Bool := (i.events && i.eventsMask) || (i.fault && i.faultMask)

/-- The level of INTN: high unless asserted; released while RESETN is asserted (R129). -/
def State.intnHigh (s : State) : Bool := s.resetAsserted || !s.evt.interrupt.asserted

/-! ### Register reads -/

/-- Device state in STATUS (Table 10-13). -/
def DeviceState.code : DeviceState → Nat
  | .disabled => 0
  | .starting => 1
  | .enabled => 2
  | .faulted => 3
  | .stopping => 4
  | .resetting => 5

/-- Fault code in STATUS (Table 10-13). -/
def FaultCode.code : FaultCode → Nat
  | .none => 0
  | .setupRead => 1
  | .setupInvalid => 2
  | .cqRead => 3
  | .bqRead => 4
  | .eqWrite => 5
  | .cqTailRange => 6
  | .bqTailRange => 7
  | .eqHeadRange => 8

/-- Acquisition state in STATUS (Table 10-13). -/
def AcqState.code : AcqState → Nat
  | .idle => 0
  | .running => 1

/-- The eight registers of the window (Table 9-1). -/
inductive WindowRegister where
  | setupLo
  | setupHi
  | control
  | status
  | cqTail
  | bqTail
  | eqHead
  | interrupt
  deriving DecidableEq, Repr

/-- The byte offset of a register in the window (Table 9-1). -/
def WindowRegister.offset : WindowRegister → Nat
  | .setupLo => 0x00
  | .setupHi => 0x04
  | .control => 0x08
  | .status => 0x0C
  | .cqTail => 0x10
  | .bqTail => 0x14
  | .eqHead => 0x18
  | .interrupt => 0x1C

/-- One bit at a place of a register. -/
def regBit (b : Bool) (i : Nat) : Word := if b then BitVec.ofNat 32 (2 ^ i) else 0

/-- What a read of STATUS returns (R166). -/
def State.statusWord (s : State) : Word :=
  BitVec.ofNat 32 s.ctl.device.code ||| BitVec.ofNat 32 (s.ctl.faultCode.code * 2 ^ 8) ||| regBit s.ctl.multi 12 |||
    BitVec.ofNat 32 (s.acq.state.code * 2 ^ 16)

/-- What a read of a register returns (R163, R164, R165, R166, R183). A read changes nothing. While RESETN is asserted
every register reads 0 (R178). -/
def State.readRegister (s : State) (r : WindowRegister) : Word :=
  if s.resetAsserted then 0
  else
    match r with
    | .setupLo => s.ctl.setupAddress.extractLsb' 0 32
    | .setupHi => s.ctl.setupAddress.extractLsb' 32 32
    | .control => regBit s.ctl.enable 0
    | .status => s.statusWord
    | .cqTail => BitVec.ofNat 32 s.cmd.tail
    | .bqTail => BitVec.ofNat 32 s.fetch.tail
    | .eqHead => BitVec.ofNat 32 s.evt.head
    | .interrupt =>
      regBit s.evt.interrupt.events 0 ||| regBit s.evt.interrupt.fault 1 ||| regBit s.evt.interrupt.eventsMask 8 |||
        regBit s.evt.interrupt.faultMask 9

end Sys2Proof.Machine
end

