-- ==== Sys2Proof/Machine/Operands.lean ====
section
/-! DEFINITION. The records the part reads: the Setup Block, the command record and the buffer descriptor, field by field
from the bytes of a read (chapter 10), with the checks made on their values. -/

namespace Sys2Proof.Machine

/-- The `w`-bit field whose first byte lies at byte offset `off` of the bytes read. Little-endian (R180): byte `i` of the
read stands in bits `8*i+7` to `8*i`. -/
def fieldAt (d : ReadData) (off w : Nat) : BitVec w := d.extractLsb' (8 * off) w

/-- An address is a multiple of 64: its low six bits are 0. -/
def aligned64 (a : Addr) : Bool := a.extractLsb' 0 6 == 0#6

/-! ### Setup Block -/

/-- The Setup Block (Table 10-1). Reserved bytes are not read. -/
def setupOf (d : ReadData) : Setup where
  cqBase := fieldAt d 0x00 64
  bqBase := fieldAt d 0x08 64
  eqBase := fieldAt d 0x10 64
  cqSizeCode := (fieldAt d 0x18 8).toNat
  bqSizeCode := (fieldAt d 0x19 8).toNat
  eqSizeCode := (fieldAt d 0x1A 8).toNat
  threshold := (fieldAt d 0x1C 16).toNat
  holdoff := (fieldAt d 0x20 32).toNat
  responseLimit := (fieldAt d 0x24 32).toNat

/-- Every value of the Setup Block is legal (R170). -/
def Setup.legal (b : Setup) : Bool :=
  aligned64 b.cqBase && aligned64 b.bqBase && aligned64 b.eqBase &&
  decide (4 ≤ b.cqSizeCode) && decide (b.cqSizeCode ≤ 12) &&
  decide (4 ≤ b.bqSizeCode) && decide (b.bqSizeCode ≤ 12) &&
  decide (5 ≤ b.eqSizeCode) && decide (b.eqSizeCode ≤ 13) &&
  decide (1 ≤ b.threshold) && decide (b.threshold ≤ 255) &&
  decide (b.holdoff ≤ Config.max24) && decide (b.responseLimit ≤ Config.max24)

/-! ### Command record -/

/-- The command record with its fields as read (Table 10-2). -/
def commandRecordOf (d : ReadData) : CommandRecord where
  kind := fieldAt d 0x00 8
  watchId := fieldAt d 0x01 8
  tag := fieldAt d 0x02 16
  slot := fieldAt d 0x04 8
  test := fieldAt d 0x05 8
  sense := fieldAt d 0x06 8
  mode := fieldAt d 0x07 8
  mask := fieldAt d 0x08 32
  value := fieldAt d 0x0C 32
  fieldOffset := fieldAt d 0x10 8
  fieldWidth := fieldAt d 0x11 8
  predecessor := fieldAt d 0x12 8
  options := fieldAt d 0x13 8
  low := fieldAt d 0x14 32
  high := fieldAt d 0x18 32
  skip := fieldAt d 0x1C 32
  window := fieldAt d 0x20 32
  pre := fieldAt d 0x24 16
  post := fieldAt d 0x26 16
  snapshotAddress := fieldAt d 0x28 64

/-- The kind a kind code names (Table 10-3); none for 0x00 and 0x0A–0xFF (R181). -/
def kindOf (b : Byte) : Option CommandKind :=
  match b.toNat with
  | 0x01 => some .nop
  | 0x02 => some .load
  | 0x03 => some .arm
  | 0x04 => some .disarm
  | 0x05 => some .free
  | 0x06 => some .snapshot
  | 0x07 => some .start
  | 0x08 => some .stop
  | 0x09 => some .cancel
  | _ => none

/-- The watch a watch id field names: 0–63; none for NONE and every other value (R181). -/
def watchOf (b : Byte) : Option WatchId := if h : b.toNat < 64 then some ⟨b.toNat, h⟩ else none

/-- The slots a CANCEL's slot field names: one of 0–3, or every slot for ALL; none for every other value (R181). -/
def slotsOf (b : Byte) : Option (List SlotId) :=
  if h : b.toNat < 4 then some [⟨b.toNat, h⟩] else if b = 0xFF then some [0, 1, 2, 3] else none

/-- The predecessor a predecessor field names (Table 10-3): the outer Option is none for an encoding that is neither
0–63 nor NONE. -/
def predecessorOf (b : Byte) : Option (Option WatchId) :=
  if b = 0xFF then some none else (watchOf b).map some

/-- Test encodings (Table 10-3). -/
def testOf (b : Byte) : Option TestKind :=
  if b = 0 then some .masked else if b = 1 then some .range else none

/-- Sense encodings (Table 10-3). -/
def senseOf (b : Byte) : Option Sense :=
  if b = 0 then some .level else if b = 1 then some .enter else if b = 2 then some .leave else none

/-- Mode encodings (Table 10-3). -/
def modeOf (b : Byte) : Option Mode :=
  if b = 0 then some .single else if b = 1 then some .repeated else none

/-- The option bits of the options byte (Table 10-2). -/
def CommandRecord.relatch (r : CommandRecord) : Bool := r.options.getLsbD 0
/-- The option bits of the options byte (Table 10-2). -/
def CommandRecord.capture (r : CommandRecord) : Bool := r.options.getLsbD 1
/-- The option bits of the options byte (Table 10-2). -/
def CommandRecord.halt (r : CommandRecord) : Bool := r.options.getLsbD 2

/-- The checks of R3 on the fields of a RANGE test. -/
def CommandRecord.rangeFieldsLegal (r : CommandRecord) : Bool :=
  decide (r.fieldOffset.toNat ≤ 31) && decide (1 ≤ r.fieldWidth.toNat) && decide (r.fieldWidth.toNat ≤ 32) &&
  decide (r.fieldOffset.toNat + r.fieldWidth.toNat ≤ 32) &&
  decide (r.high.toNat < 2 ^ r.fieldWidth.toNat) && decide (r.low.toNat ≤ r.high.toNat)

/-- The configuration a LOAD record asks for, with the fields that do not apply stored as 0 or no (R2); none when a field
that applies is out of range (R3), which is BAD_FIELD. -/
def CommandRecord.config (r : CommandRecord) : Option WatchConfig :=
  match testOf r.test, senseOf r.sense, modeOf r.mode, predecessorOf r.predecessor with
  | some t, some se, some m, some p =>
    if (t == .range && !r.rangeFieldsLegal) || decide (Config.max24 < r.skip.toNat) || (r.relatch && p == none)
        || (r.capture && decide (Config.maxPre < r.pre.toNat)) then none
    else some
      { test := t
        mask := if t = .masked then r.mask else 0
        value := if t = .masked then r.value else 0
        fieldOffset := if t = .range then r.fieldOffset.toNat else 0
        fieldWidth := if t = .range then r.fieldWidth.toNat else 0
        low := if t = .range then r.low.toNat else 0
        high := if t = .range then r.high.toNat else 0
        sense := se
        mode := m
        skip := r.skip.toNat
        window := r.window.toNat
        predecessor := p
        relatch := r.relatch
        capture := r.capture
        pre := if r.capture then r.pre.toNat else 0
        post := if r.capture then r.post.toNat else 0
        halt := r.halt }
  | _, _, _, _ => none

/-- The kinds that read the watch id field (Table 7-1). -/
def CommandKind.namesWatch : CommandKind → Bool
  | .load | .arm | .disarm | .free | .snapshot => true
  | .nop | .start | .stop | .cancel => false

/-- The checks common to all kinds, in the order of R138: the status of the first that fails, if one does. -/
def CommandRecord.takeRefusal (r : CommandRecord) : Option CmdStatus :=
  match kindOf r.kind with
  | none => some .badKind
  | some k =>
    if k.namesWatch && (watchOf r.watchId).isNone then some .badWatch
    else if k == .cancel && (slotsOf r.slot).isNone then some .badSlot
    else if k == .snapshot && !aligned64 r.snapshotAddress then some .badField
    else none

/-- The detail of a command's CMD_DONE (R141): the field as read, or absent. -/
def CommandRecord.detail (r : CommandRecord) : Option Byte :=
  match kindOf r.kind with
  | some .load | some .arm | some .disarm | some .free | some .snapshot => some r.watchId
  | some .cancel => some r.slot
  | some .nop | some .start | some .stop | none => none

/-! ### Buffer descriptor -/

/-- Descriptor `i` of a batch, its fields as read (Table 10-4). -/
def descriptorAt (d : ReadData) (i : Nat) : Descriptor where
  address := fieldAt d (16 * i) 64
  capacity := (fieldAt d (16 * i + 8) 24).toNat
  tag := fieldAt d (16 * i + 12) 32

/-- The checks of R103, in order: the reason of the first that fails, if one does. -/
def Descriptor.reject (d : Descriptor) : Option RejectReason :=
  if d.capacity = 0 then some .zeroCapacity
  else if Config.maxCapacity < d.capacity then some .overCapacity
  else if !aligned64 d.address then some .misaligned
  else none

end Sys2Proof.Machine
end

