-- ==== Sys2Proof/Machine/Records.lean ====
section
/-! DEFINITION. The records the part writes: event records, capture entries and watch snapshots, byte by byte
(chapter 10, section 10.3, R180 and R182). -/

namespace Sys2Proof.Machine

/-- The `n` low bytes of a number, the least significant first (R180). -/
def leBytes : Nat → Nat → List Byte
  | 0, _ => []
  | n + 1, v => BitVec.ofNat 8 v :: leBytes n (v / 256)

/-- `n` reserved bytes, written as 0 (R180). -/
def reserved (n : Nat) : List Byte := List.replicate n 0

/-- A 48-bit value in six bytes. -/
def bytes48 (x : BitVec 48) : List Byte := leBytes 6 x.toNat

/-- A 48-bit value that may be absent, in six bytes: 0 when absent (R182). -/
def optBytes48 (x : Option (BitVec 48)) : List Byte := bytes48 (x.getD 0)

/-- One bit of a byte. -/
def bit (b : Bool) (i : Nat) : Nat := if b then 2 ^ i else 0

/-! ### Encodings (R182) -/

/-- CMD_DONE status. -/
def CmdStatus.code : CmdStatus → Nat
  | .ok => 0
  | .badKind => 1
  | .badWatch => 2
  | .badSlot => 3
  | .wrongState => 4
  | .badField => 5
  | .noPredecessor => 6
  | .chainLoop => 7
  | .hasSuccessor => 8
  | .already => 9
  | .notActive => 10
  | .writeError => 11

/-- Capture status. -/
def CaptureStatus.code : CaptureStatus → Nat
  | .complete => 0
  | .clipped => 1
  | .truncated => 2
  | .overrun => 3
  | .aborted => 4
  | .writeError => 5

/-- Rejection reason. -/
def RejectReason.code : RejectReason → Nat
  | .zeroCapacity => 1
  | .overCapacity => 2
  | .misaligned => 3

/-- End reason. -/
def EndReason.code : EndReason → Nat
  | .none => 0
  | .fired => 1
  | .expired => 2
  | .windowEnd => 3
  | .disarmed => 4

/-- Watch state. -/
def WatchState.code : WatchState → Nat
  | .free => 0
  | .idle => 1
  | .pending => 2
  | .live => 3
  | .done => 4

/-- Previous result. -/
def PrevResult.code : PrevResult → Nat
  | .unknown => 0
  | .isFalse => 1
  | .isTrue => 2

/-- Test, as Table 10-3. -/
def TestKind.code : TestKind → Nat
  | .masked => 0
  | .range => 1

/-- Sense, as Table 10-3. -/
def Sense.code : Sense → Nat
  | .level => 0
  | .enter => 1
  | .leave => 2

/-- Mode, as Table 10-3. -/
def Mode.code : Mode → Nat
  | .single => 0
  | .repeated => 1

/-- Predecessor in a snapshot echo: the watch id, or 0xFF for NONE. -/
def predecessorCode : Option WatchId → Nat
  | none => 0xFF
  | some p => p.val

/-- Event kind, bits 0–6 of byte 0x00 (Table 10-5). -/
def EventContent.kindCode : EventContent → Nat
  | .cmdDone _ => 0x01
  | .watchReport _ => 0x02
  | .captureDone _ => 0x03
  | .bufferReject _ => 0x04
  | .acqHalt _ => 0x05

/-! ### Event records (Tables 10-5 to 10-10) -/

/-- Byte 0x01, which belongs to the kind. -/
def EventContent.byteOne : EventContent → Nat
  | .cmdDone c => c.status.code
  | .watchReport r => r.watch.val
  | .captureDone c => c.slot.val
  | .bufferReject r => r.reason.code
  | .acqHalt h => h.watch.val

/-- Offsets 0x08 to 0x1F. -/
def EventContent.body : EventContent → List Byte
  | .cmdDone c =>
    leBytes 2 c.tag.toNat ++ [c.kind] ++ [c.detail.getD 0] ++ leBytes 1 (bit c.detail.isSome 0) ++ reserved 1 ++
      leBytes 2 c.headAfter ++ reserved 16
  | .watchReport r =>
    leBytes 1 (r.endReason.code + bit r.final 7) ++ leBytes 1 r.missed ++ leBytes 4 r.fireCount ++
      optBytes48 r.firstFire ++ optBytes48 r.lastFire ++ bytes48 r.lastFireTick
  | .captureDone c =>
    leBytes 1 c.watch.val ++ leBytes 1 c.status.code ++ reserved 2 ++ leBytes 4 c.bufferTag.toNat ++
      bytes48 c.trigger ++ bytes48 c.firstSample ++ leBytes 4 c.entryCount
  | .bufferReject r => leBytes 4 r.tag.toNat ++ leBytes 2 r.bqIndex ++ reserved 18
  | .acqHalt h => bytes48 h.sample ++ reserved 18

/-- The 32-byte event record of the event in flight. -/
def InFlight.recordBytes (e : InFlight) : List Byte :=
  leBytes 1 (e.content.kindCode + bit e.phase 7) ++ leBytes 1 e.content.byteOne ++ bytes48 e.eventTick ++
    e.content.body

/-! ### Capture entry (Table 10-11) -/

/-- One 16-byte capture entry: bit 0 of the flags byte is TRIGGER (R79). -/
def captureEntryBytes (number : SampleNo) (isTrigger : Bool) (e : RingEntry) : List Byte :=
  bytes48 number ++ leBytes 1 (bit isTrigger 0) ++ reserved 1 ++ leBytes 4 e.data.toNat ++ leBytes 4 e.tickLow.toNat

/-! ### Watch snapshot (Table 10-12) -/

/-- The 64-byte watch snapshot. -/
def SnapshotContent.recordBytes (c : SnapshotContent) : List Byte :=
  leBytes 1 c.watch.val ++ leBytes 1 c.state.code ++ leBytes 1 c.previous.code ++ leBytes 1 c.endReason.code ++
    leBytes 1 (bit c.asOf.isSome 0 + bit c.windowRemaining.isSome 1 + bit (c.fireCount != 0) 2) ++
    leBytes 1 c.missed ++ reserved 2 ++
    optBytes48 c.asOf ++ reserved 2 ++ optBytes48 c.firstFire ++ optBytes48 c.lastFire ++
    leBytes 4 c.fireCount ++ leBytes 4 c.skipRemaining ++ leBytes 4 (c.windowRemaining.getD 0) ++
    leBytes 1 c.test.code ++ leBytes 1 c.sense.code ++ leBytes 1 c.mode.code ++
    leBytes 1 (predecessorCode c.predecessor) ++
    leBytes 1 (bit c.relatch 0 + bit c.capture 1 + bit c.halt 2) ++ reserved 3 ++
    leBytes 4 c.skip ++ leBytes 4 c.window ++ reserved 8

end Sys2Proof.Machine
end

