-- ==== Sys2Proof/Machine/Ring.lean ====
section
/-! DEFINITION. The History Ring: the store of its 2048 positions, and the floor, the newest sample number and the
presence of an entry, which are derived from the sample counter and the held count (R57, R58). -/

namespace Sys2Proof.Machine

/-- What a position that is not listed reads as. DESIGN CHOICE (log entry 2): the manual gives the entries no value at
power-on; a position is read only while its entry is present, and it has been written by then. -/
def blankEntry : RingEntry := { data := 0, tickLow := 0 }

/-- The entry at a position. -/
def ringRead : List (Nat × RingEntry) → Nat → RingEntry
  | [], _ => blankEntry
  | (p, e) :: rest, q => if p = q then e else ringRead rest q

/-- The store with a new entry at a position, in canonical form: positions strictly rising, no blank entry listed. -/
def ringWrite : List (Nat × RingEntry) → Nat → RingEntry → List (Nat × RingEntry)
  | [], q, e => if e = blankEntry then [] else [(q, e)]
  | (p, x) :: rest, q, e =>
    if q < p then (if e = blankEntry then (p, x) :: rest else (q, e) :: (p, x) :: rest)
    else if q = p then (if e = blankEntry then rest else (q, e) :: rest)
    else (p, x) :: ringWrite rest q e

/-- Every position listed is at least `lo`. -/
def ringAbove (lo : Nat) : List (Nat × RingEntry) → Bool
  | [] => true
  | (p, e) :: rest =>
    decide (lo ≤ p) && decide (p < Config.ringDepth) && decide (e ≠ blankEntry) && ringAbove (p + 1) rest

/-- The canonical form: positions strictly rising and below 2048, no blank entry listed. -/
def ringWf (r : List (Nat × RingEntry)) : Bool := ringAbove 0 r

/-- The ring position of a sample: its number mod 2048 (R55, R58). -/
def ringPosition (k : SampleNo) : Nat := k.toNat % Config.ringDepth

/-- The floor: the lowest sample number valid in the ring (R57). -/
def Acquisition.floor (a : Acquisition) : SampleNo := a.sampleCounter - BitVec.ofNat 48 a.heldCount

/-- The newest sample number, absent while the held count is 0 (R57). -/
def Acquisition.newest (a : Acquisition) : Option SampleNo :=
  if a.heldCount = 0 then none else some (a.sampleCounter - 1)

/-- The entry of a sample is present in the ring (R58). -/
def Acquisition.holds (a : Acquisition) (k : SampleNo) : Bool := decide ((k - a.floor).toNat < a.heldCount)

/-- The ring entry at the position of a sample (R58). -/
def Acquisition.entryOf (a : Acquisition) (k : SampleNo) : RingEntry := ringRead a.ring (ringPosition k)

/-- The sample whose entry the next arrival overwrites, when the ring is full (R55, step 2). -/
def Acquisition.overwritten (a : Acquisition) : Option SampleNo :=
  if a.heldCount = Config.ringDepth then some (a.sampleCounter - BitVec.ofNat 48 Config.ringDepth) else none

/-- Steps 1 and 2 of a sample arrival (R55): the counter and the ring. -/
def Acquisition.accept (a : Acquisition) (word : Word) (tick : Tick) : Acquisition :=
  { a with
    sampleCounter := a.sampleCounter + 1
    heldCount := if a.heldCount = Config.ringDepth then a.heldCount else a.heldCount + 1
    ring := ringWrite a.ring (ringPosition a.sampleCounter) { data := word, tickLow := tick.setWidth 32 } }

end Sys2Proof.Machine
end

