-- ==== Sys2Proof/Machine/SlotOps.lean ====
section
/-! DEFINITION. What happens to one Capture Slot (chapter 4): positions in its window, its present run and requests,
bursts, end causes, write responses, and its CAPTURE_DONE. -/

namespace Sys2Proof.Machine

/-! ### Windows and requests -/

/-- The position of a sample in the slot's window (R68). -/
def Slot.pos (sl : Slot) (k : SampleNo) : Nat := (k - sl.windowStart).toNat

/-- The length of the present run (R76). -/
def Slot.presentRun (a : Acquisition) (sl : Slot) : Nat :=
  match a.newest with
  | none => 0
  | some n =>
    let last := min (sl.pos sl.windowEnd) (sl.pos n)
    if last < sl.pos sl.nextToCopy then 0 else last - sl.pos sl.nextToCopy + 1

/-- The present run reaches the window end: the newest sample is at or above it (R76). -/
def Slot.endArrived (a : Acquisition) (sl : Slot) : Bool :=
  match a.newest with
  | none => false
  | some n => decide (sl.pos sl.windowEnd ≤ sl.pos n)

/-- Condition 3 of R76: the present run is long enough to ask for a burst. -/
def Slot.runDue (a : Acquisition) (sl : Slot) : Bool :=
  decide (Config.burstEntries ≤ sl.presentRun a) ||
    (decide (1 ≤ sl.presentRun a) && (sl.endArrived a || sl.flushing))

/-- The check of R76: a FILLING slot with something to send asks the Memory Port for a write. -/
def Slot.checkRequest (a : Acquisition) (sl : Slot) : Slot :=
  if sl.state = .filling ∧ sl.requestStanding = false ∧ sl.bursts.length < Config.burstListDepth
      ∧ sl.runDue a = true then
    { sl with requestStanding := true }
  else sl

/-! ### End causes (R89, R90) -/

/-- The pending end status after an end cause other than an ERROR response: the first one stands (R89). -/
def Slot.causeStatus (c : CaptureStatus) (sl : Slot) : Option CaptureStatus := some (sl.status.getD c)

/-- A slot in CLOSING with no write outstanding enters POSTING (R90). -/
def Slot.settle (sl : Slot) : Slot :=
  if sl.state = .closing ∧ sl.outstanding = 0 then { sl with state := .posting } else sl

/-- The slot leaves FILLING for CLOSING with an end cause, its standing request withdrawn; with no write outstanding it
enters POSTING in the same event (R82, R86, R90). -/
def Slot.close (c : CaptureStatus) (sl : Slot) : Slot :=
  { sl with state := .closing, requestStanding := false, status := sl.causeStatus c : Slot }.settle

/-- The slot still needed the entry of an overwritten sample (R82). -/
def Slot.needs (k : SampleNo) (sl : Slot) : Bool :=
  decide (sl.pos k ≤ sl.pos sl.windowEnd) && decide (sl.pos sl.nextToCopy ≤ sl.pos k)

/-- An arrival notice at one slot (R76, R82). -/
def Slot.onArrival (a : Acquisition) (overwritten : Option SampleNo) (sl : Slot) : Slot :=
  if sl.state = .filling then
    match overwritten with
    | some k => if sl.flushing = false ∧ sl.needs k = true then sl.close .overrun else sl.checkRequest a
    | none => sl.checkRequest a
  else sl

/-- An end-of-run notice at one slot (R84, R85). -/
def Slot.onEndOfRun (a : Acquisition) (newest : SampleNo) (sl : Slot) : Slot :=
  if sl.state = .filling ∧ sl.flushing = false ∧ sl.pos newest < sl.pos sl.windowEnd then
    let cut : Slot := { sl with windowEnd := newest, status := sl.causeStatus .truncated, flushing := true }
    if cut.pos newest < cut.pos cut.nextToCopy then cut.close .truncated else cut.checkRequest a
  else sl.checkRequest a

/-! ### Bursts -/

/-- The entries of a burst: `n` window samples from next-to-copy up, copied from the ring (R78, R79). -/
def Slot.burstBytes (a : Acquisition) (sl : Slot) : Nat → SampleNo → List Byte
  | 0, _ => []
  | n + 1, k => captureEntryBytes k (k == sl.trigger) (a.entryOf k) ++ sl.burstBytes a n (k + 1)

/-- How many entries a grant takes: the lower of 16 and the present run's length (R78). -/
def Slot.burstLength (a : Acquisition) (sl : Slot) : Nat := min Config.burstEntries (sl.presentRun a)

/-- The write address of a burst (R78). -/
def Slot.burstAddress (sl : Slot) : Addr := sl.buffer + BitVec.ofNat 64 (16 * sl.pos sl.nextToCopy)

/-- The slot after a grant with this tag (R78, R79, R85). -/
def Slot.onGrant (a : Acquisition) (tag : Tag) (sl : Slot) : Slot :=
  let n := sl.burstLength a
  let sent : Slot :=
    { sl with
      nextToCopy := sl.nextToCopy + BitVec.ofNat 48 n
      outstanding := sl.outstanding + 1
      bursts := sl.bursts ++ [{ count := n, answer := .waiting, tag := tag }]
      requestStanding := false }
  if sent.pos sent.windowEnd < sent.pos sent.nextToCopy then
    sent.close (if sent.clipped then .clipped else .complete)
  else sent.checkRequest a

/-! ### Write responses -/

/-- An answer as a burst record's answer. -/
def BurstAnswer.ofAnswer : Answer → BurstAnswer
  | .ok => .ok
  | .error => .error

/-- The burst list with the WAITING record of this tag marked with its answer (R80). -/
def markBurst (tag : Tag) (ans : Answer) : List BurstRecord → List BurstRecord
  | [] => []
  | b :: rest =>
    if b.tag = tag ∧ b.answer = .waiting then { b with answer := .ofAnswer ans } :: rest
    else b :: markBurst tag ans rest

/-- The records that leave the head of the burst list, all marked OK (R80): how many entries they hold, and the list
they leave. -/
def leadingRun : List BurstRecord → Nat × List BurstRecord
  | [] => (0, [])
  | b :: rest => if b.answer = .ok then ((leadingRun rest).1 + b.count, (leadingRun rest).2) else (0, b :: rest)

/-- The slot with a response's answer marked, outstanding writes one lower, and leading entries counted (R80). -/
def Slot.answered (tag : Tag) (ans : Answer) (sl : Slot) : Slot :=
  let marked := markBurst tag ans sl.bursts
  { sl with
    outstanding := sl.outstanding - 1
    leading := sl.leading + (leadingRun marked).1
    bursts := (leadingRun marked).2 }

/-- A write response at a slot while ENABLED (R80, R81, R90). -/
def Slot.onResponse (a : Acquisition) (tag : Tag) (ans : Answer) (sl : Slot) : Slot :=
  match sl.state with
  | .free => sl
  | .posting => sl
  | .closing =>
    let sl' := sl.answered tag ans
    (match ans with
      | .ok => sl'
      | .error => { sl' with status := some .writeError }).settle
  | .filling =>
    let sl' := sl.answered tag ans
    match ans with
    | .ok => if sl'.bursts.length < sl.bursts.length then sl'.checkRequest a else sl'
    | .error =>
      { sl' with state := .closing, requestStanding := false, status := some .writeError : Slot }.settle

/-- A write response at a slot while FAULTED (R94). -/
def Slot.onResponseFaulted (tag : Tag) (ans : Answer) (sl : Slot) : Slot :=
  { sl with outstanding := sl.outstanding - 1, bursts := markBurst tag ans sl.bursts }

/-- A write response at a slot while STOPPING or RESETTING (R95). -/
def Slot.onResponseLeaving (sl : Slot) : Slot := { sl with outstanding := sl.outstanding - 1 }

/-! ### Allocation -/

/-- A slot allocated to a capture request (R70, R72, R73, R75): watch, trigger, pre and post counts, the descriptor, the
ring and the run-end mark. -/
def Slot.allocated (a : Acquisition) (mark : Option SampleNo) (w : WatchId) (s : SampleNo) (pre post : Nat)
    (d : Descriptor) : Slot :=
  let start := if pre ≤ (s - a.floor).toNat then s - BitVec.ofNat 48 pre else a.floor
  let asked := s + BitVec.ofNat 48 post
  let long := decide (d.capacity < (asked - start).toNat + 1)
  let stop := if long then start + BitVec.ofNat 48 d.capacity - 1 else asked
  let base : Slot :=
    { state := .filling, watch := w, buffer := d.address, capacity := d.capacity, bufferTag := d.tag, trigger := s,
      windowStart := start, windowEnd := stop, clipped := long, flushing := false, nextToCopy := start,
      requestStanding := false, leading := 0, bursts := [], outstanding := 0, status := none }
  match mark with
  | none => base
  | some m =>
    if base.pos m < base.pos stop then
      { base with windowEnd := m, status := some .truncated, flushing := true }
    else base

/-! ### CAPTURE_DONE -/

/-- The CAPTURE_DONE content of a slot in POSTING (R92): there is none in any other state. -/
def Slot.captureDone (i : SlotId) (sl : Slot) : Option CaptureDone :=
  if sl.state = .posting then
    sl.status.map fun st =>
      { slot := i, watch := sl.watch, bufferTag := sl.bufferTag, status := st, trigger := sl.trigger,
        firstSample := sl.windowStart, entryCount := sl.leading }
  else none

end Sys2Proof.Machine
end

