-- ==== Sys2Proof/Machine/Table.lean ====
section
/-! DEFINITION. Fixed tables (the Watch Table, the Capture Slots, the Request Table): reading one place, writing one
place, changing every place; and when the tick count has reached an expiry. -/

namespace Sys2Proof.Machine

/-- The element at a place of a fixed table. -/
def tget {α : Type} {n : Nat} (v : Vector α n) (i : Fin n) : α := v.get i

/-- The table with a new element at one place. -/
def tset {α : Type} {n : Nat} (v : Vector α n) (i : Fin n) (x : α) : Vector α n := v.set i.val x i.isLt

/-- The table with every element changed. -/
def tmap {α : Type} {n : Nat} (f : Fin n → α → α) (v : Vector α n) : Vector α n :=
  Vector.ofFn fun i => f i (tget v i)

/-- The tick count has reached an expiry tick. Ticks are compared modulo 2^48 (R52): the expiry is reached when it lies
less than 2^47 ticks back. DEDUCED (log entry 3): every window, holdoff and limit is below 2^32 ticks. -/
def reached (tick expiry : Tick) : Bool := decide ((tick - expiry).toNat < 2 ^ 47)

end Sys2Proof.Machine
end

