-- ==== Sys2Proof/Machine/WatchOps.lean ====
section
/-! DEFINITION. What happens to one watch context: tests, senses, skips and fires (chapter 2), entry into LIVE and DONE
(R8, R9), report and snapshot content (R19, R22), and the predecessor walk (R13). -/

namespace Sys2Proof.Machine

/-! ### Tests, occurrences, fires -/

/-- The field a RANGE test takes: `width` bits whose lowest is bit `offset`, as an unsigned number (R27). -/
def sampleField (sample : Word) (offset width : Nat) : Nat := (sample.toNat >>> offset) % 2 ^ width

/-- The test result of a sample (R26, R27). -/
def WatchConfig.testResult (c : WatchConfig) (sample : Word) : Bool :=
  match c.test with
  | .masked => sample &&& c.mask == c.value &&& c.mask
  | .range =>
    let f := sampleField sample c.fieldOffset c.fieldWidth
    decide (c.low ≤ f) && decide (f ≤ c.high)

/-- Whether a test result is an occurrence (R28). -/
def occurrence (sense : Sense) (previous : PrevResult) (t : Bool) : Bool :=
  match sense, previous with
  | _, .unknown => false
  | .level, _ => t
  | .enter, .isFalse => t
  | .enter, .isTrue => false
  | .leave, .isTrue => !t
  | .leave, .isFalse => false

/-- A test result as a previous result. -/
def PrevResult.ofTest (t : Bool) : PrevResult := if t then .isTrue else .isFalse

/-- The sample is an occurrence for this watch: only a LIVE watch evaluates it (R25, R28). -/
def Watch.occurs (w : Watch) (sample : Word) : Bool :=
  w.state == .live && occurrence w.config.sense w.previous (w.config.testResult sample)

/-- The watch fires on the sample: an occurrence with skip remaining 0 (R30). -/
def Watch.fires (w : Watch) (sample : Word) : Bool := w.occurs sample && w.skipRemaining == 0

/-! ### Entry into LIVE and DONE -/

/-- Entry into LIVE, and re-entry by relatch (R8), at a tick. -/
def Watch.enterLive (tick : Tick) (w : Watch) : Watch :=
  { w with
    state := .live
    skipRemaining := w.config.skip
    previous := .unknown
    windowExpiry := if w.config.window = 0 then none else some (tick + BitVec.ofNat 48 w.config.window)
    expiryRaised := false }

/-- Entry into DONE (R9). The Report List is joined beside it. -/
def Watch.enterDone (reason : EndReason) (w : Watch) : Watch :=
  { w with state := .done, endReason := reason, windowExpiry := none, expiryRaised := false }

/-- The id joins the tail of the Report List, unless it is already there (R18). -/
def joinReports (l : List WatchId) (w : WatchId) : List WatchId := if w ∈ l then l else l ++ [w]

/-! ### Phases 1, 2 and 4 of a sample's evaluation -/

/-- The unreported fields after a fire (R32). -/
def Watch.recordFire (p : PresentedSample) (w : Watch) : Watch :=
  { w with
    fireCount := if w.fireCount < Config.maxFireCount then w.fireCount + 1 else w.fireCount
    firstFire := if w.fireCount = 0 then some p.number else w.firstFire
    lastFire := some p.number
    lastFireTick := p.arrivalTick }

/-- What the mode does after a fire (R34). -/
def Watch.afterFire (w : Watch) : Watch :=
  match w.config.mode with
  | .single => w.enterDone .fired
  | .repeated => { w with skipRemaining := w.config.skip }

/-- Phases 1 and 2 for one watch (R24, R28, R30, R32, R34): the test, the sense, the skip, and the fire's record. -/
def Watch.evaluate (p : PresentedSample) (w : Watch) : Watch :=
  if w.state = .live then
    let seen : Watch := { w with previous := .ofTest (w.config.testResult p.data) }
    if w.fires p.data then (seen.recordFire p).afterFire
    else if w.occurs p.data then { seen with skipRemaining := seen.skipRemaining - 1 }
    else seen
  else w

/-- The fired set of a sample, in ascending watch id (R24). -/
def firedSet (watches : Vector Watch 64) (p : PresentedSample) : List WatchId :=
  (List.finRange 64).filter fun i => (tget watches i).fires p.data

/-- Phase 4 for one watch: promotion (R38) and relatch (R39), at the tick of phase 4 (R41). -/
def Watch.succeed (fired : List WatchId) (tick : Tick) (w : Watch) : Watch :=
  match w.config.predecessor with
  | none => w
  | some p =>
    if decide (p ∈ fired) && (w.state == .pending || (w.state == .live && w.config.relatch)) then w.enterLive tick
    else w

/-! ### Reports and snapshots -/

/-- The unreported fields, reset (R19, step 3). -/
def Watch.clearUnreported (w : Watch) : Watch :=
  { w with fireCount := 0, firstFire := none, lastFire := none, lastFireTick := 0, missed := 0 }

/-- The report content of a watch (R19, step 1). -/
def Watch.report (id : WatchId) (w : Watch) : WatchReport where
  watch := id
  final := w.state == .done
  endReason := if w.state = .done then w.endReason else .none
  fireCount := w.fireCount
  firstFire := w.firstFire
  lastFire := w.lastFire
  lastFireTick := w.lastFireTick
  missed := w.missed

/-- The watch after its report is chosen (R19, steps 3 and 4). -/
def Watch.reported (w : Watch) : Watch :=
  if w.state = .done then { w.clearUnreported with state := .idle, endReason := .none } else w.clearUnreported

/-- The refused capture requests of a watch, one more, up to 255 (R36). -/
def Watch.countMissed (w : Watch) : Watch :=
  { w with missed := if w.missed < Config.maxMissed then w.missed + 1 else w.missed }

/-- The window remaining of a snapshot (R22): 0 once the expiry tick has been reached. -/
def Watch.windowRemaining (tick : Tick) (w : Watch) : Option Nat :=
  w.windowExpiry.map fun e => if w.expiryRaised || reached tick e then 0 else (e - tick).toNat

/-- The snapshot content of a watch (R22). -/
def Watch.snapshot (id : WatchId) (asOf : Option SampleNo) (tick : Tick) (w : Watch) : SnapshotContent where
  watch := id
  asOf := asOf
  state := w.state
  previous := w.previous
  skipRemaining := w.skipRemaining
  windowRemaining := w.windowRemaining tick
  fireCount := w.fireCount
  firstFire := w.firstFire
  lastFire := w.lastFire
  missed := w.missed
  endReason := w.endReason
  test := w.config.test
  sense := w.config.sense
  mode := w.config.mode
  skip := w.config.skip
  window := w.config.window
  predecessor := w.config.predecessor
  relatch := w.config.relatch
  capture := w.config.capture
  halt := w.config.halt

/-! ### Watch commands at the table -/

/-- A watch that is the predecessor of a non-FREE watch (R17). -/
def hasSuccessor (watches : Vector Watch 64) (w : WatchId) : Bool :=
  (List.finRange 64).any fun i => (tget watches i).state != .free && (tget watches i).config.predecessor == some w

/-- The predecessor walk of R13, from `at_`: it reaches `loaded`. `fuel` bounds the walk; the walk of a table that keeps
R12 ends within 63 steps (DEDUCED, log entry 5). -/
def walkReaches (watches : Vector Watch 64) (loaded : WatchId) : Nat → WatchId → Bool
  | 0, _ => true
  | fuel + 1, at_ =>
    if at_ = loaded then true
    else
      match (tget watches at_).config.predecessor with
      | none => false
      | some p => walkReaches watches loaded fuel p

/-- Steps 3 and 4 of LOAD for a loaded predecessor (R10): the refusal, if one is due. -/
def predecessorRefusal (watches : Vector Watch 64) (loaded : WatchId) : Option WatchId → Option CmdStatus
  | none => none
  | some p =>
    if p = loaded ∨ (tget watches p).state = .free then some .noPredecessor
    else if walkReaches watches loaded 64 p then some .chainLoop
    else none

/-- The context after an accepted LOAD (R11). -/
def Watch.loaded (c : WatchConfig) (w : Watch) : Watch :=
  { w with
    config := c, state := .idle, skipRemaining := 0, previous := .unknown, windowExpiry := none,
    expiryRaised := false, endReason := .none }

/-- The context after an accepted ARM (R14). -/
def Watch.armed (tick : Tick) (w : Watch) : Watch :=
  match w.config.predecessor with
  | none => w.enterLive tick
  | some _ =>
    { w with
      state := .pending, skipRemaining := w.config.skip, previous := .unknown, windowExpiry := none,
      expiryRaised := false }

end Sys2Proof.Machine
end

