-- ==== Sys2Proof/Machine/Ops.lean ====
section
/-! DEFINITION. The operations that several commands share: updates of one block, ring indices, the checks by which a
block asks the Memory Port for access, completions, end-of-run notices, capture requests, fatal errors, leaving ENABLED and
entering DISABLED. -/

namespace Sys2Proof.Machine

/-! ### Updates of one block -/

/-- The state with another tick count. -/
def State.withTick (s : State) (x : Tick) : State := { s with tick := x }
/-- The state with another Control Unit. -/
def State.withCtl (s : State) (x : Control) : State := { s with ctl := x }
/-- The state with another Acquisition Unit. -/
def State.withAcq (s : State) (x : Acquisition) : State := { s with acq := x }
/-- The state with another Watch Engine. -/
def State.withEng (s : State) (x : WatchEngine) : State := { s with eng := x }
/-- The state with another Capture Unit. -/
def State.withCap (s : State) (x : CaptureUnit) : State := { s with cap := x }
/-- The state with another Buffer Fetcher. -/
def State.withFetch (s : State) (x : Fetcher) : State := { s with fetch := x }
/-- The state with another Command Unit. -/
def State.withCmd (s : State) (x : CommandUnit) : State := { s with cmd := x }
/-- The state with another Event Writer. -/
def State.withEvt (s : State) (x : EventWriter) : State := { s with evt := x }
/-- The state with another Memory Port. -/
def State.withPort (s : State) (x : MemoryPort) : State := { s with port := x }

/-- One watch context. -/
def State.watch (s : State) (w : WatchId) : Watch := tget s.eng.watches w
/-- The state with one watch context replaced. -/
def State.setWatch (s : State) (w : WatchId) (x : Watch) : State :=
  s.withEng { s.eng with watches := tset s.eng.watches w x }
/-- One Capture Slot. -/
def State.slot (s : State) (i : SlotId) : Slot := tget s.cap.slots i
/-- The state with one Capture Slot replaced. -/
def State.setSlot (s : State) (i : SlotId) (x : Slot) : State :=
  s.withCap { s.cap with slots := tset s.cap.slots i x }
/-- One Request Table entry. -/
def State.entry (s : State) (t : Tag) : PortEntry := tget s.port.entries t
/-- The state with one Request Table entry replaced. -/
def State.setEntry (s : State) (t : Tag) (x : PortEntry) : State :=
  s.withPort { s.port with entries := tset s.port.entries t x }

/-- A sample is outstanding (R56): presented to the Watch Engine, and its close not yet received. -/
def State.sampleOutstanding (s : State) : Bool := s.eng.presented.isSome

/-! ### Ring indices -/

/-- The distance from one index up to another, modulo the size (Conventions, Ring indices). -/
def ringDistance (size lo hi : Nat) : Nat := (hi + size - lo) % size

/-- Records of the CQ (R133). -/
def CommandUnit.size (c : CommandUnit) : Nat := 2 ^ c.sizeCode
/-- Command records posted and not yet taken (chapter 7). -/
def CommandUnit.available (c : CommandUnit) : Nat := ringDistance c.size c.head c.tail
/-- Descriptors of the BQ (R97). -/
def Fetcher.size (f : Fetcher) : Nat := 2 ^ f.sizeCode
/-- Descriptors posted and not yet read (chapter 5). -/
def Fetcher.available (f : Fetcher) : Nat := ringDistance f.size f.head f.tail
/-- Records of the EQ (R109). -/
def EventWriter.size (e : EventWriter) : Nat := 2 ^ e.sizeCode
/-- Event records written and not yet released (R118). -/
def EventWriter.fill (e : EventWriter) : Nat := ringDistance e.size e.head e.tail

/-! ### Checks by which a block asks for access -/

/-- The check of R136: the Command Unit asks for a CQ read. -/
def State.checkCommandFetch (s : State) : State :=
  if s.ctl.device = .enabled ∧ s.cmd.state = .idle ∧ 0 < s.cmd.available then
    s.withCmd { s.cmd with state := .fetching, link := .standing }
  else s

/-- The check of R100: the Buffer Fetcher asks for a BQ read. -/
def State.checkBufferFetch (s : State) : State :=
  if s.ctl.device = .enabled ∧ s.fetch.fetch = .idle ∧ 0 < s.fetch.available
      ∧ s.cap.cache.length < Config.cacheDepth ∧ s.fetch.rejections = [] then
    s.withFetch { s.fetch with fetch := .requested }
  else s

/-! ### Commands: dispatch and completion -/

/-- The command of this kind that waits at its owner: the current command, in EXECUTING (R140). -/
def State.dispatched (s : State) (k : CommandKind) : Option CurrentCommand :=
  if s.ctl.device = .enabled ∧ s.cmd.state = .executing then
    s.cmd.current.filter fun c => kindOf c.record.kind == some k
  else none

/-- A dispatched watch command, with the watch it names. The Watch Engine takes it outside the evaluation of a sample
(R7). -/
def State.dispatchedWatch (s : State) (k : CommandKind) : Option (CurrentCommand × WatchId) :=
  if s.eng.begun then none
  else
    match s.dispatched k with
    | none => none
    | some c => (watchOf c.record.watchId).map fun w => (c, w)

/-- The CMD_DONE content of a command with a status (R141). -/
def CurrentCommand.done (c : CurrentCommand) (st : CmdStatus) : CmdDone where
  tag := c.record.tag
  kind := c.record.kind
  status := st
  headAfter := c.headAfter
  detail := c.record.detail

/-- The Command Unit with its current command completed (R141). -/
def CommandUnit.complete (u : CommandUnit) (st : CmdStatus) : CommandUnit :=
  match u.current with
  | none => u
  | some c => { u with state := .posting, current := none, held := some (c.done st) }

/-- An owner returns a status (R141). -/
def State.complete (s : State) (st : CmdStatus) : State := s.withCmd (s.cmd.complete st)

/-! ### Reports -/

/-- A watch enters DONE and joins the Report List (R9). -/
def State.watchDone (s : State) (w : WatchId) (reason : EndReason) : State :=
  s.withEng
    { s.eng with
      watches := tset s.eng.watches w ((s.watch w).enterDone reason)
      reportList := joinReports s.eng.reportList w }

/-! ### Capture Unit -/

/-- A slot is FILLING. -/
def CaptureUnit.someFilling (c : CaptureUnit) : Bool :=
  (List.finRange 4).any fun i => (tget c.slots i).state == .filling

/-- The lowest-numbered FREE slot (R70). -/
def CaptureUnit.freeSlot (c : CaptureUnit) : Option SlotId :=
  (List.finRange 4).find? fun i => (tget c.slots i).state == .free

/-- An arrival notice at the Capture Unit (R55 step 3, R75, R76, R82). `a` is the Acquisition Unit after steps 1 and 2. -/
def CaptureUnit.onArrival (a : Acquisition) (overwritten : Option SampleNo) (c : CaptureUnit) : CaptureUnit :=
  { c with slots := tmap (fun _ sl => sl.onArrival a overwritten) c.slots, runEndMark := none }

/-- An end-of-run notice at the Capture Unit (R64, R75, R84). -/
def CaptureUnit.onEndOfRun (a : Acquisition) (newest : Option SampleNo) (c : CaptureUnit) : CaptureUnit :=
  match newest with
  | none => c
  | some n => { c with slots := tmap (fun _ sl => sl.onEndOfRun a n) c.slots, runEndMark := some n }

/-- A capture request (R70): the state after it is accepted, or none when it is refused. -/
def State.requestCapture (s : State) (w : WatchId) (trigger : SampleNo) (pre post : Nat) : Option State :=
  if s.ctl.device = .enabled then
    match s.cap.freeSlot, s.cap.cache with
    | some i, d :: rest =>
      let sl := (Slot.allocated s.acq s.cap.runEndMark w trigger pre post d).checkRequest s.acq
      some ((s.withCap { s.cap with slots := tset s.cap.slots i sl, cache := rest }).checkBufferFetch)
    | _, _ => none
  else none

/-! ### Starting acquisition -/

/-- A START that finds acquisition IDLE is held at the Acquisition Unit (R60). -/
def State.holdStart (s : State) : State :=
  match s.dispatched .start, s.acq.state with
  | some _, .idle => s.withAcq { s.acq with heldStart := true }
  | _, _ => s

/-- In ENABLED, the conditions of a held START (R60). -/
def State.startReady (s : State) : Bool :=
  s.ctl.device == .enabled && s.acq.heldStart && !s.sampleOutstanding && !s.cap.someFilling && s.acq.pendingHalt.isNone

/-- A START is taken (R61). -/
def State.takeStart (s : State) : State :=
  ((s.withAcq { s.acq with state := .running, heldCount := 0, heldStart := false }).withEng
    { s.eng with noticeWaiting := true }).complete .ok

/-- The check of R60: a held START whose conditions hold is taken. It is made at the START's arrival, at a close, at each
slot's grant and answer, and at the choice of a pending ACQ_HALT (R56, R65, R69). An edge, a STOP and a CANCEL need none:
after an edge a sample is outstanding, and while a START waits at its owner no other command does (section 7.4). -/
def State.checkStart (s : State) : State := if s.startReady then s.takeStart else s

/-! ### The evaluation of a sample -/

/-- Phases 1 and 2 (R24): every LIVE watch evaluates, and the fired watches join the Report List in ascending id (R33). -/
def WatchEngine.evaluateAll (e : WatchEngine) (p : PresentedSample) : WatchEngine :=
  { e with
    watches := tmap (fun _ w => w.evaluate p) e.watches
    reportList := (firedSet e.watches p).foldl joinReports e.reportList }

/-- Phase 3's capture requests, in ascending watch id; each refusal is counted (R35, R36). -/
def State.makeCaptureRequests (p : PresentedSample) : List WatchId → State → State
  | [], s => s
  | w :: rest, s =>
    let c := (s.watch w).config
    makeCaptureRequests p rest
      (if c.capture then
        match s.requestCapture w p.number c.pre c.post with
        | some s' => s'
        | none => s.setWatch w (s.watch w).countMissed
      else s)

/-- Phase 3's halt request: the lowest fired watch with halt = yes (R37). -/
def State.haltRequest (s : State) (fired : List WatchId) : Option WatchId :=
  fired.find? fun w => (s.watch w).config.halt

/-- Phase 4 (R38, R39, R41, R5). -/
def WatchEngine.succeedAll (e : WatchEngine) (fired : List WatchId) (tick : Tick) (n : SampleNo) : WatchEngine :=
  { e with watches := tmap (fun _ w => w.succeed fired tick) e.watches, lastEvaluated := some n }

/-- The close at the Acquisition Unit: no sample is outstanding; a halt request is taken while RUNNING and discarded while
IDLE (R56, R63); and a held START checks its conditions (R60). -/
def State.closeSample (s : State) (halt : Option WatchId) (n : SampleNo) : State :=
  let t := s.withEng { s.eng with presented := none, begun := false }
  match halt with
  | none => t.checkStart
  | some w =>
    match s.acq.state with
    | .idle => t.checkStart
    | .running =>
      let a : Acquisition := { s.acq with state := .idle, pendingHalt := some { watch := w, sample := n } }
      (t.withAcq a).withCap (s.cap.onEndOfRun a (some n))

/-- The evaluation of a presented sample, all four phases and the close (R24). -/
def State.evaluateSample (s : State) (p : PresentedSample) : State :=
  let fired := firedSet s.eng.watches p
  let s2 := s.withEng (s.eng.evaluateAll p)
  let s3 := State.makeCaptureRequests p fired s2
  let s4 := s3.withEng (s3.eng.succeedAll fired s3.tick p.number)
  s4.closeSample (s2.haltRequest fired) p.number

/-! ### Stopping the blocks -/

/-- The Command Unit abandons its command (R146, R147): a standing request is withdrawn, an outstanding one stays, and the
held completion becomes absent. -/
def CommandUnit.abandon (u : CommandUnit) : CommandUnit :=
  { u with
    state := .idle
    link := if u.link = .outstanding then .outstanding else .none
    current := none
    snapshot := none
    held := none }

/-- The Buffer Fetcher withdraws a standing request (R107): a read in flight stays. -/
def Fetcher.withdraw (f : Fetcher) : Fetcher :=
  { f with fetch := if f.fetch = .reading then .reading else .idle }

/-- The Event Writer stops (R130, R131): a standing write is withdrawn and its event lost, an outstanding one stays, and
the holdoff timer becomes IDLE. Every source keeps its item, and none is chosen (R130): four are kept where they are, and
the completion held until now is kept here. DESIGN CHOICE (log entry 17): R130 has the source held CMD_DONE keep its item and
R146 has the Command Unit's held completion become absent, and the two are fields of their own. -/
def EventWriter.stop (held : Option CmdDone) (e : EventWriter) : EventWriter :=
  { e with
    inFlight := if e.request = .outstanding then e.inFlight else none
    request := if e.request = .outstanding then .outstanding else .none
    holdoffTimer := none
    keptCompletion := held.or e.keptCompletion }

/-- The Capture Unit stops (R93, R95): every slot withdraws its standing request, and a CANCEL in progress is dropped. -/
def CaptureUnit.stop (c : CaptureUnit) : CaptureUnit :=
  { c with slots := tmap (fun _ sl => { sl with requestStanding := false }) c.slots, cancelling := none }

/-- The presented sample when the part leaves ENABLED (R50): one whose evaluation has begun is completed in all four phases,
and meets the Capture Unit and the Acquisition Unit in their states after the change, so every capture request is refused
(R70) and a halt request is discarded (R63); one not yet taken is closed without evaluation. -/
def State.closePresented (s : State) : State :=
  match s.eng.presented with
  | none => s
  | some p =>
    if s.eng.begun then s.evaluateSample p else s.withEng { s.eng with presented := none }

/-- Every block stops, on entry into FAULTED, STOPPING or RESETTING: acquisition becomes IDLE without a notice and a held
START is dropped (R66); the Capture Unit, Buffer Fetcher, Command Unit, Event Writer and Control Unit withdraw and drop as
their chapters give (R93, R95, R107, R146, R147, R130, R131, R154); and a presented sample is closed (R50). -/
def State.stopBlocks (s : State) (d : DeviceState) : State :=
  State.closePresented
    { s with
      acq := { s.acq with state := .idle, heldStart := false }
      cap := s.cap.stop
      fetch := s.fetch.withdraw
      cmd := s.cmd.abandon
      evt := s.evt.stop s.cmd.held
      ctl :=
        { s.ctl with
          device := d, setupRequest := if s.ctl.setupRequest = .outstanding then .outstanding else .none } }

/-! ### Fatal errors -/

/-- INTERRUPT.FAULT is set (R128). -/
def State.setFault (s : State) : State :=
  s.withEvt { s.evt with interrupt := { s.evt.interrupt with fault := true } }

/-- The entry into FAULTED (R176). -/
def State.enterFaulted (s : State) (code : FaultCode) : State :=
  let t := (s.stopBlocks .faulted).setFault
  t.withCtl { t.ctl with faultCode := code, multi := false }

/-- A fatal error report at the Control Unit, by the device state (R175). -/
def State.fatal (s : State) (code : FaultCode) : State :=
  match s.ctl.device with
  | .starting => s.enterFaulted code
  | .enabled => s.enterFaulted code
  | .faulted => s.setFault.withCtl { s.ctl with multi := true }
  | .stopping => s
  | .resetting => s
  | .disabled => s

/-! ### Entering DISABLED -/

/-- The values every block takes at the entry into DISABLED that ends a disable (R6, R66, R96, R108, R132, R148, R162,
R179). -/
def State.disabledValues (s : State) : State :=
  { s with
    acq := { s.acq with state := .idle, sampleCounter := 0, heldCount := 0, pendingHalt := none, heldStart := false }
    eng := .cleared
    cap := .cleared
    fetch := { s.fetch with head := 0, tail := 0, fetch := .idle, batch := none, rejections := [] }
    cmd :=
      { s.cmd with
        head := 0, tail := 0, state := .idle, link := .none, current := none, snapshot := none, held := none }
    evt :=
      { s.evt with
        tail := 0, head := 0, lapParity := true, inFlight := none, request := .none, moderation := 0,
        holdoffTimer := none, interrupt := { s.evt.interrupt with events := false }, keptCompletion := none }
    port := { s.port with grantPointer := .slot 3 }
    ctl := { s.ctl with device := .disabled, enable := false, setupRequest := .none } }

/-- The values at the entry into DISABLED that ends a soft reset: those of a disable, and Setup Block address, fault code,
MULTI, INTERRUPT and the tick counter cleared (R174, R179, R132, R51). -/
def State.softResetValues (s : State) : State :=
  let t := s.disabledValues
  { t with
    tick := 0
    ctl := { t.ctl with setupAddress := 0, checkedSetup := none, faultCode := .none, multi := false }
    evt := { t.evt with interrupt := { events := false, fault := false, eventsMask := false, faultMask := false } } }

/-- An entry is ACTIVE. -/
def PortEntry.isActive : PortEntry → Bool
  | .active _ _ _ => true
  | .free => false
  | .stale _ _ => false

/-- Some Request Table entry is ACTIVE (R161). -/
def MemoryPort.someActive (m : MemoryPort) : Bool := (List.finRange 8).any fun t => (tget m.entries t).isActive

/-- The Memory Port tells the Control Unit when no entry is ACTIVE, and the passage through STOPPING or RESETTING ends in
DISABLED (R161, R173, R174). -/
def State.endPassage (s : State) : State :=
  if s.port.someActive then s
  else
    match s.ctl.device with
    | .stopping => s.disabledValues
    | .resetting => s.softResetValues
    | .disabled => s
    | .starting => s
    | .enabled => s
    | .faulted => s

/-- The state at power-on values while RESETN is asserted (R178). The model's queue of waiting commands is kept. -/
def State.powerOn (s : State) (asserted : Bool) : State :=
  { State.reset with pending := s.pending, resetAsserted := asserted }

end Sys2Proof.Machine
end

