-- ==== Sys2Proof/Machine/Commands.lean ====
section
/-! DEFINITION. The dispatched commands at their owners: LOAD, ARM, DISARM, FREE and SNAPSHOT at the Watch Engine
(chapter 1), START and STOP at the Acquisition Unit (R60 to R62), CANCEL at the Capture Unit (R86). A command that is not
waiting at its owner is no event there, and leaves the part as it was. -/

namespace Sys2Proof.Machine

/-! ### Watch commands -/

/-- The status of a LOAD and the configuration it writes when accepted (R10). -/
def WatchEngine.judgeLoad (e : WatchEngine) (w : WatchId) (r : CommandRecord) : CmdStatus × Option WatchConfig :=
  if (tget e.watches w).state = .free ∨ (tget e.watches w).state = .idle then
    match r.config with
    | none => (.badField, none)
    | some c =>
      match predecessorRefusal e.watches w c.predecessor with
      | some st => (st, none)
      | none => (.ok, some c)
  else (.wrongState, none)

/-- LOAD (R10, R11). -/
def execLoad (s : State) : Host.Outcome State Fault Refusal :=
  .next
    (match s.dispatchedWatch .load with
      | none => s
      | some (c, w) =>
        match s.eng.judgeLoad w c.record with
        | (st, none) => s.complete st
        | (st, some cfg) => (s.setWatch w ((s.watch w).loaded cfg)).complete st)

/-- ARM (R14). -/
def execArm (s : State) : Host.Outcome State Fault Refusal :=
  .next
    (match s.dispatchedWatch .arm with
      | none => s
      | some (_, w) =>
        if (s.watch w).state = .idle then (s.setWatch w ((s.watch w).armed s.tick)).complete .ok
        else s.complete .wrongState)

/-- DISARM (R15). -/
def execDisarm (s : State) : Host.Outcome State Fault Refusal :=
  .next
    (match s.dispatchedWatch .disarm with
      | none => s
      | some (_, w) =>
        if (s.watch w).state = .pending ∨ (s.watch w).state = .live then (s.watchDone w .disarmed).complete .ok
        else s.complete .wrongState)

/-- FREE (R17). -/
def execFree (s : State) : Host.Outcome State Fault Refusal :=
  .next
    (match s.dispatchedWatch .free with
      | none => s
      | some (_, w) =>
        if (s.watch w).state ≠ .idle then s.complete .wrongState
        else if hasSuccessor s.eng.watches w then s.complete .hasSuccessor
        else (s.setWatch w .freeContext).complete .ok)

/-- SNAPSHOT (R21, R22, R143): the content is taken, and the Command Unit asks for the write. -/
def execSnapshot (s : State) : Host.Outcome State Fault Refusal :=
  .next
    (match s.dispatchedWatch .snapshot with
      | none => s
      | some (_, w) =>
        if s.cmd.snapshot = none then
          s.withCmd
            { s.cmd with
              snapshot := some ((s.watch w).snapshot w s.eng.lastEvaluated s.tick), link := .standing }
        else s)

/-! ### START and STOP -/

/-- START (R60): ALREADY while RUNNING; while IDLE it is held, and taken at once when its conditions hold. -/
def execStart (s : State) : Host.Outcome State Fault Refusal :=
  .next
    (match s.dispatched .start with
      | none => s
      | some _ =>
        match s.acq.state with
        | .running => s.complete .already
        | .idle => s.holdStart.checkStart)

/-- START_TAKEN (R61): the take of a START that is held, or that arrives. DEDUCED (log entry 21): every check of R60 takes
the START in its own event, as R60 and R65 say, so the row names that event at the arrival, and finds nothing after it. -/
def execStartTaken (s : State) : Host.Outcome State Fault Refusal :=
  .next
    (if s.holdStart.startReady then s.holdStart.takeStart else s)

/-- STOP (R62, R64). -/
def execStop (s : State) : Host.Outcome State Fault Refusal :=
  .next
    (match s.dispatched .stop with
      | none => s
      | some _ =>
        match s.acq.state with
        | .idle => s.complete .already
        | .running =>
          let a : Acquisition := { s.acq with state := .idle }
          ((s.withAcq a).withCap (s.cap.onEndOfRun a a.newest)).complete .ok)

/-! ### CANCEL -/

/-- The target set of a CANCEL: the slots named that are non-FREE (R86). -/
def CaptureUnit.targets (c : CaptureUnit) (named : List SlotId) : List SlotId :=
  named.filter fun i => (tget c.slots i).state != .free

/-- The status of a CANCEL with targets, fixed at the take (R86). -/
def CaptureUnit.cancelStatus (c : CaptureUnit) (targets : List SlotId) : CmdStatus :=
  if targets.any fun i => (tget c.slots i).state == .filling then .ok else .already

/-- A CANCEL at one slot: a FILLING target enters CLOSING (R86, R89). -/
def Slot.onCancel (named : Bool) (sl : Slot) : Slot :=
  if named = true ∧ sl.state = .filling then sl.close .aborted else sl

/-- CANCEL (R86). -/
def execCancel (s : State) : Host.Outcome State Fault Refusal :=
  .next
    (match s.dispatched .cancel with
      | none => s
      | some c =>
        match s.cap.cancelling, slotsOf c.record.slot with
        | none, some named =>
          let targets := s.cap.targets named
          if targets = [] then s.complete .notActive
          else
            s.withCap
              { s.cap with
                slots := tmap (fun i sl => sl.onCancel (decide (i ∈ targets))) s.cap.slots
                cancelling := some { targets := targets, status := s.cap.cancelStatus targets } }
        | _, _ => s)

end Sys2Proof.Machine
end

