-- ==== Sys2Proof/Machine/Events.lean ====
section
/-! DEFINITION. The Event Writer's own steps: the choice among the five sources (R110, R111, R112), with what each source
changes (R91, R65, R113, R105, R19), and the holdoff expiry (R124). -/

namespace Sys2Proof.Machine

/-- The slot offered: the lowest-numbered in POSTING, with its content (R110). -/
def CaptureUnit.offer (c : CaptureUnit) : Option CaptureDone :=
  (List.finRange 4).findSome? fun i => (tget c.slots i).captureDone i

/-- The item of the first source in rank that offers one (R110). A report choice is taken outside the evaluation of a
sample (R7). -/
def State.offer (s : State) : Option EventContent :=
  match s.cap.offer, s.acq.pendingHalt, s.cmd.held, s.fetch.rejections, s.eng.reportList with
  | some c, _, _, _, _ => some (.captureDone c)
  | none, some h, _, _, _ => some (.acqHalt h)
  | none, none, some d, _, _ => some (.cmdDone d)
  | none, none, none, r :: _, _ => some (.bufferReject r)
  | none, none, none, [], w :: _ => if s.eng.begun then none else some (.watchReport ((s.watch w).report w))
  | none, none, none, [], [] => none

/-- A slot's CAPTURE_DONE is chosen (R91): the slot becomes FREE, and leaves the target set of a CANCEL in progress, whose
status is returned when the set becomes empty (R87). -/
def State.captureDoneChosen (s : State) (i : SlotId) : State :=
  let freed := { s.cap with slots := tset s.cap.slots i .freeSlot }
  match s.cap.cancelling with
  | none => s.withCap freed
  | some p =>
    if i ∈ p.targets then
      if p.targets.filter (· ≠ i) = [] then (s.withCap { freed with cancelling := none }).complete p.status
      else s.withCap { freed with cancelling := some { p with targets := p.targets.filter (· ≠ i) } }
    else s.withCap freed

/-- The head report is chosen (R19). -/
def State.reportChosen (s : State) (w : WatchId) : State :=
  s.withEng
    { s.eng with
      watches := tset s.eng.watches w (s.watch w).reported, reportList := s.eng.reportList.drop 1 }

/-- What the choice of an item changes at its source (R112, step 4): a held START checks its conditions at the choice of
the pending ACQ_HALT, and is taken there (R65). -/
def State.itemChosen (s : State) : EventContent → State
  | .captureDone c => s.captureDoneChosen c.slot
  | .acqHalt _ => (s.withAcq { s.acq with pendingHalt := none }).checkStart
  | .cmdDone _ => s.withCmd { s.cmd with held := none }
  | .bufferReject _ =>
    (s.withFetch { s.fetch with rejections := s.fetch.rejections.drop 1 }).checkBufferFetch
  | .watchReport r => s.reportChosen r.watch

/-- The conditions of a choice, but for an offer (R111). -/
def State.mayChoose (s : State) : Bool :=
  s.ctl.device == .enabled && s.evt.inFlight.isNone && decide (s.evt.fill < s.evt.size - 1)

/-- A choice of this item (R112, R115). -/
def State.choose (s : State) (c : EventContent) : State :=
  (s.itemChosen c).withEvt
    { s.evt with
      inFlight := some { index := s.evt.tail, phase := s.evt.lapParity, eventTick := s.tick, content := c }
      request := .standing }

/-- EVENT_CHOICE (R111, R112). -/
def execEventChoice (s : State) : Host.Outcome State Fault Refusal :=
  .next
    (if s.mayChoose then
      match s.offer with
      | some c => s.choose c
      | none => s
    else s)

/-- HOLDOFF_EXPIRY (R124): in ENABLED, once the tick count has reached the expiry of a RUNNING holdoff timer. -/
def execHoldoffExpiry (s : State) : Host.Outcome State Fault Refusal :=
  .next
    (match s.evt.holdoffTimer with
      | none => s
      | some e =>
        if s.ctl.device = .enabled ∧ reached s.tick e = true then
          s.withEvt
            { s.evt with
              holdoffTimer := none
              moderation := 0
              interrupt := { s.evt.interrupt with events := s.evt.interrupt.events || decide (0 < s.evt.moderation) } }
        else s)

end Sys2Proof.Machine
end

