-- ==== Sys2Proof/Machine/Sampling.lean ====
section
/-! DEFINITION. The sample path: SAMPLE_ARRIVAL at the Acquisition Unit (R54, R55), SAMPLE_EVALUATION at the Watch Engine
(R24), the start-of-run notice (R48), and window expiries (R43, R44). -/

namespace Sys2Proof.Machine

/-! ### Arrival -/

/-- The conditions under which an edge is accepted (R54). -/
def State.acceptsEdge (s : State) : Bool :=
  s.ctl.device == .enabled && s.acq.state == .running && !s.sampleOutstanding

/-- A sample arrival (R55). -/
def State.arrive (s : State) (word : Word) : State :=
  let a := s.acq.accept word s.tick
  { s with
    acq := a
    cap := s.cap.onArrival a s.acq.overwritten
    eng :=
      { s.eng with
        presented := some { number := s.acq.sampleCounter, data := word, arrivalTick := s.tick } } }

/-- SAMPLE_ARRIVAL (R55): an edge that is not accepted leaves the part as it was (R54). -/
def execSampleArrival (word : Word) (s : State) : Host.Outcome State Fault Refusal :=
  .next (if s.acceptsEdge then s.arrive word else s)

/-! ### Evaluation -/

/-- SAMPLE_EVALUATION (R24): taken in ENABLED, once a sample is presented and no start-of-run notice waits (R23, R61). One
that only begins leaves its close to a later SAMPLE_EVALUATION, or to the event at which the part leaves ENABLED (R50). -/
def execSampleEvaluation (extent : EvaluationExtent) (s : State) : Host.Outcome State Fault Refusal :=
  .next
    (match s.eng.presented with
      | none => s
      | some p =>
        if s.ctl.device = .enabled ∧ s.eng.noticeWaiting = false then
          match extent with
          | .whole => s.evaluateSample p
          | .begins => s.withEng { s.eng with begun := true }
        else s)

/-! ### Start-of-run notice -/

/-- The notice at one watch (R48). -/
def Watch.onStartOfRun (w : Watch) : Watch := if w.state = .live then { w with previous := .unknown } else w

/-- The Watch Engine takes the notice (R48). -/
def WatchEngine.takeNotice (e : WatchEngine) : WatchEngine :=
  { e with watches := tmap (fun _ w => w.onStartOfRun) e.watches, noticeWaiting := false }

/-- START_OF_RUN_NOTICE (R48): taken in ENABLED, once the notice waits, outside the evaluation of a sample (R7). DESIGN
CHOICE (log entry 22): a notice still waiting when the part leaves ENABLED goes on waiting and is not taken, in FAULTED,
STOPPING or RESETTING, until the entry into DISABLED clears it. -/
def execStartOfRunNotice (s : State) : Host.Outcome State Fault Refusal :=
  .next
    (if s.ctl.device = .enabled ∧ s.eng.noticeWaiting = true ∧ s.eng.begun = false then s.withEng s.eng.takeNotice
    else s)

/-! ### The bound on an evaluation -/

/-- The next REFCLK period is the 8th since the acceptance of this sample, or a later one (R187). -/
def PresentedSample.due (p : PresentedSample) (tick : Tick) : Bool :=
  decide (Config.evaluationPeriods ≤ (tick + 1 - p.arrivalTick).toNat)

/-- The evaluation of a sample ends within 8 REFCLK periods of its acceptance, with any wait behind a notice (R187): one
that is still to close ends before the count of the 8th period, the notice first (R61). DESIGN CHOICE (log entry 19): the
place within the 8th period, and that periods are counted as ticks. -/
def State.endDueEvaluation (s : State) : State :=
  match s.eng.presented with
  | none => s
  | some p =>
    if s.ctl.device = .enabled ∧ p.due s.tick = true then
      (if s.eng.noticeWaiting then s.withEng s.eng.takeNotice else s).evaluateSample p
    else s

/-! ### Window expiries -/

/-- The window timer of a watch has reached its expiry tick (R43). -/
def Watch.expiryReached (tick : Tick) (w : Watch) : Bool :=
  match w.windowExpiry with
  | none => false
  | some e => reached tick e

/-- EXPIRY_RAISED (R43): in ENABLED, once the tick count has reached the expiry of a running timer; in FAULTED the timers
are frozen. DESIGN CHOICE (log entry 20): R43 does not say whether a timer raises its expiry in STOPPING or RESETTING, and
here it does not. -/
def execExpiryRaised (w : WatchId) (s : State) : Host.Outcome State Fault Refusal :=
  .next
    (if s.ctl.device = .enabled ∧ (s.watch w).state = .live ∧ (s.watch w).expiryReached s.tick = true then
      s.setWatch w { s.watch w with expiryRaised := true }
    else s)

/-- Why a window expiry ends a watch (R44). -/
def Mode.expiryReason : Mode → EndReason
  | .single => .expired
  | .repeated => .windowEnd

/-- WINDOW_EXPIRY (R44): in ENABLED, once the expiry of a LIVE watch is raised, outside the evaluation of a sample (R7). -/
def execWindowExpiry (w : WatchId) (s : State) : Host.Outcome State Fault Refusal :=
  .next
    (if s.ctl.device = .enabled ∧ s.eng.begun = false ∧ (s.watch w).state = .live
        ∧ (s.watch w).expiryRaised = true then
      s.watchDone w (s.watch w).config.mode.expiryReason
    else s)

end Sys2Proof.Machine
end

