-- ==== Sys2Proof/Machine/Pins.lean ====
section
/-! DEFINITION. The pins that act on the whole part: RESETN (R178, R187) and REFCLK (R51). -/

namespace Sys2Proof.Machine

/-- RESET_PIN_ASSERTED (R178): a low level of 16 or more REFCLK periods holds the part at its power-on values; a shorter one
leaves it as it was (R187). -/
def execResetPinAsserted (lowPeriods : Nat) (s : State) : Host.Outcome State Fault Refusal :=
  .next (if Config.resetPeriods ≤ lowPeriods then s.powerOn true else s)

/-- RESET_PIN_RELEASED (R178): the part is DISABLED with its power-on values. A return to high that ends no assertion leaves
the part as it was (R187). -/
def execResetPinReleased (s : State) : Host.Outcome State Fault Refusal :=
  .next (if s.resetAsserted then s.powerOn false else s)

/-- REFCLK_TICK (R51): the tick counter counts in every device state, and stands at 0 while RESETN is asserted. An
evaluation whose 8th period this is ends in it (R187). -/
def execRefclkTick (s : State) : Host.Outcome State Fault Refusal :=
  .next (if s.resetAsserted then s else s.endDueEvaluation.withTick (s.tick + 1))

end Sys2Proof.Machine
end

