-- ==== Sys2Proof/Machine/Port.lean ====
section
/-! DEFINITION. The Memory Port (chapter 8): who asks, who is granted and what is issued; and responses and expiries,
matched by tag and delivered to the owner of the entry, with what each owner does with them. The seven response rows of the
table are one physical event, a Host Link response that names a tag: which block takes it is decided by the tag's entry
alone (R155), so their meanings are one operation, `State.takeResponse`. -/

namespace Sys2Proof.Machine

/-! ### Requests and grants -/

/-- The rotating order of the requesters (R151). -/
def requesterOrder : List Requester :=
  [.control, .command, .fetcher, .writer, .slot 0, .slot 1, .slot 2, .slot 3]

/-- The place of a requester in the rotating order. -/
def Requester.place : Requester → Nat
  | .control => 0
  | .command => 1
  | .fetcher => 2
  | .writer => 3
  | .slot i => 4 + i.val

/-- The requesters in the order they are considered: from the one after the grant pointer, round to it (R151). -/
def rotation (pointer : Requester) : List Requester :=
  requesterOrder.drop (pointer.place + 1) ++ requesterOrder.take (pointer.place + 1)

/-- A requester has a standing request: each block holds that of its own. -/
def State.standing (s : State) : Requester → Bool
  | .control => s.ctl.setupRequest == .standing
  | .command => s.cmd.link == .standing
  | .fetcher => s.fetch.fetch == .requested
  | .writer => s.evt.request == .standing
  | .slot i => (s.slot i).requestStanding

/-- How many ACTIVE entries a requester may have (R151). -/
def Requester.limit : Requester → Nat
  | .slot _ => 8
  | .control => 1
  | .command => 1
  | .fetcher => 1
  | .writer => 1

/-- An entry is ACTIVE with this owner. -/
def PortEntry.ownedBy (q : Requester) : PortEntry → Bool
  | .active o _ _ => o == q
  | .free => false
  | .stale _ _ => false

/-- How many entries are ACTIVE for a requester. -/
def MemoryPort.activeCount (m : MemoryPort) (q : Requester) : Nat :=
  ((List.finRange 8).filter fun t => (tget m.entries t).ownedBy q).length

/-- The FREE entry with the lowest tag (R151). -/
def MemoryPort.freeTag (m : MemoryPort) : Option Tag :=
  (List.finRange 8).find? fun t => tget m.entries t == .free

/-- The requester the next grant goes to: the first in rotating order with a standing request and fewer ACTIVE entries than
its limit (R151). -/
def State.nextRequester (s : State) : Option Requester :=
  (rotation s.port.grantPointer).find? fun q => s.standing q && decide (s.port.activeCount q < q.limit)

/-- The Buffer Fetcher's batch length at the grant: the least of available, cache room and ring room (R101). -/
def State.batchLength (s : State) : Nat :=
  min s.fetch.available (min (Config.cacheDepth - s.cap.cache.length) (s.fetch.size - s.fetch.head))

/-- The request a requester forms at its grant (R149, R137, R143, R101, R115, R78). -/
def State.formRequest (s : State) (tag : Tag) : Requester → LinkRequest
  | .control => { tag := tag, kind := .read, address := s.ctl.setupAddress, size := 64, data := [] }
  | .command =>
    match s.cmd.snapshot, s.cmd.current with
    | some c, some cur =>
      { tag := tag, kind := .write, address := cur.record.snapshotAddress, size := 64, data := c.recordBytes }
    | _, _ =>
      { tag := tag, kind := .read, address := s.cmd.base + BitVec.ofNat 64 (64 * s.cmd.head), size := 64, data := [] }
  | .fetcher =>
    { tag := tag, kind := .read, address := s.fetch.base + BitVec.ofNat 64 (16 * s.fetch.head),
      size := 16 * s.batchLength, data := [] }
  | .writer =>
    match s.evt.inFlight with
    | some e =>
      { tag := tag, kind := .write, address := s.evt.base + BitVec.ofNat 64 (32 * e.index), size := 32,
        data := e.recordBytes }
    | none =>
      { tag := tag, kind := .write, address := s.evt.base + BitVec.ofNat 64 (32 * s.evt.tail), size := 0, data := [] }
  | .slot i =>
    let sl := s.slot i
    let n := sl.burstLength s.acq
    { tag := tag, kind := .write, address := sl.burstAddress, size := 16 * n,
      data := sl.burstBytes s.acq n sl.nextToCopy }

/-- What the grant changes at the requester granted (R152, step 3; R137, R143, R101, R115, R78); a slot that
closes lets a held START check its conditions (R69). -/
def State.tellGranted (s : State) (tag : Tag) : Requester → State
  | .control => s.withCtl { s.ctl with setupRequest := .outstanding }
  | .command => s.withCmd { s.cmd with link := .outstanding }
  | .fetcher =>
    s.withFetch
      { s.fetch with fetch := .reading, batch := some { first := s.fetch.head, length := s.batchLength } }
  | .writer => s.withEvt { s.evt with request := .outstanding }
  | .slot i => (s.setSlot i ((s.slot i).onGrant s.acq tag)).checkStart

/-- The expiry of an entry granted now (R152): none when the limit in force is 0. -/
def State.grantExpiry (s : State) : Option Tick :=
  if s.port.limitInForce = 0 then none else some (s.tick + BitVec.ofNat 48 s.port.limitInForce)

/-- A grant of this tag to this requester (R152). -/
def State.issueGrant (s : State) (q : Requester) (tag : Tag) : State :=
  let req := s.formRequest tag q
  (s.tellGranted tag q).withPort
    { s.port with
      entries := tset s.port.entries tag (.active q req.size s.grantExpiry)
      grantPointer := q
      issued := s.port.issued ++ [req] }

/-- The Memory Port makes one grant when the conditions of R151 hold, and none otherwise. -/
def State.makeGrant (s : State) : State :=
  if s.ctl.device = .starting ∨ s.ctl.device = .enabled then
    match s.nextRequester, s.port.freeTag with
    | some q, some t => s.issueGrant q t
    | _, _ => s
  else s

/-! ### The Control Unit takes its response (R169, R171, R172) -/

/-- The entry into ENABLED with a checked setup (R172, R133, R97, R109, R156, R53, R6). -/
def State.enterEnabled (s : State) (b : Setup) : State :=
  { s with
    ctl := { s.ctl with device := .enabled, setupRequest := .none, checkedSetup := some b }
    cmd :=
      { s.cmd with
        base := b.cqBase, sizeCode := b.cqSizeCode, head := 0, tail := 0, state := .idle, link := .none,
        current := none, snapshot := none, held := none }
    fetch :=
      { s.fetch with
        base := b.bqBase, sizeCode := b.bqSizeCode, head := 0, tail := 0, fetch := .idle, batch := none }
    evt :=
      { s.evt with
        base := b.eqBase, sizeCode := b.eqSizeCode, tail := 0, head := 0, lapParity := true, inFlight := none,
        moderation := 0, holdoffTimer := none, threshold := b.threshold, holdoff := b.holdoff }
    acq := { s.acq with state := .idle, sampleCounter := 0, heldCount := 0, pendingHalt := none }
    eng := .cleared
    port := { s.port with limitInForce := b.responseLimit } }

/-- The response to the Setup Block read: taken in STARTING, absorbed otherwise (R169, R171). -/
def State.toControl (s : State) (ans : Answer) (data : ReadData) : State :=
  let t := s.withCtl { s.ctl with setupRequest := .none }
  if s.ctl.device = .starting then
    match ans with
    | .error => t.fatal .setupRead
    | .ok => if (setupOf data).legal then t.enterEnabled (setupOf data) else t.fatal .setupInvalid
  else t

/-! ### The Command Unit takes its response (R137, R138, R142, R143, R146, R147) -/

/-- The take of a command (R137, R138, R142): the record becomes the current command, the CQ head advances, and the common
checks are made; a record that fails one, and a NOP, is completed in the same event, and any other is dispatched. -/
def CommandUnit.take (u : CommandUnit) (r : CommandRecord) : CommandUnit :=
  let h := (u.head + 1) % u.size
  let taken : CommandUnit :=
    { u with head := h, link := .none, current := some { record := r, headAfter := h }, state := .executing }
  match r.takeRefusal with
  | some st => taken.complete st
  | none => if kindOf r.kind = some .nop then taken.complete .ok else taken

/-- The response to the CQ read, taken in ENABLED (R137). -/
def State.cqRead (s : State) (ans : Answer) (data : ReadData) : State :=
  match ans with
  | .ok => s.withCmd (s.cmd.take (commandRecordOf data))
  | .error => (s.withCmd { s.cmd with state := .idle, link := .none }).fatal .cqRead

/-- The response to the snapshot write, taken in ENABLED (R143). -/
def State.snapshotWritten (s : State) (ans : Answer) : State :=
  (s.withCmd { s.cmd with snapshot := none, link := .none }).complete
    (match ans with
      | .ok => .ok
      | .error => .writeError)

/-- A response at the Command Unit: taken in ENABLED, absorbed otherwise (R146, R147). -/
def State.toCommand (s : State) (ans : Answer) (data : ReadData) : State :=
  let absorbed := s.withCmd { s.cmd with link := .none }
  if s.ctl.device = .enabled then
    match s.cmd.state with
    | .fetching => s.cqRead ans data
    | .executing => s.snapshotWritten ans
    | .idle => absorbed
    | .posting => absorbed
  else absorbed

/-! ### The Buffer Fetcher takes its response (R102, R106, R107) -/

/-- The descriptors of a batch, in BQ order, from its `i`-th on: each joins the tail of the Buffer Cache or of the
Rejection List (R102, R103). -/
def takeDescriptors (data : ReadData) (first : Nat) :
    Nat → Nat → List Descriptor × List Rejection → List Descriptor × List Rejection
  | 0, _, acc => acc
  | n + 1, i, (cache, rejections) =>
    let d := descriptorAt data i
    match d.reject with
    | none => takeDescriptors data first n (i + 1) (cache ++ [d], rejections)
    | some why =>
      takeDescriptors data first n (i + 1)
        (cache, rejections ++ [{ tag := d.tag, reason := why, bqIndex := first + i }])

/-- The response to the BQ read, taken in ENABLED (R102, R106). -/
def State.bqRead (s : State) (b : Batch) (ans : Answer) (data : ReadData) : State :=
  match ans with
  | .ok =>
    let got := takeDescriptors data b.first b.length 0 (s.cap.cache, s.fetch.rejections)
    ((s.withCap { s.cap with cache := got.1 }).withFetch
      { s.fetch with
        rejections := got.2, head := (s.fetch.head + b.length) % s.fetch.size, fetch := .idle,
        batch := none }).checkBufferFetch
  | .error => (s.withFetch { s.fetch with fetch := .idle, batch := none }).fatal .bqRead

/-- A response at the Buffer Fetcher: taken in ENABLED, absorbed otherwise (R107). -/
def State.toFetcher (s : State) (ans : Answer) (data : ReadData) : State :=
  match s.ctl.device, s.fetch.batch with
  | .enabled, some b => s.bqRead b ans data
  | _, _ => s.withFetch { s.fetch with fetch := .idle, batch := none }

/-! ### The Event Writer takes its response (R116, R117, R123, R130, R131) -/

/-- An event is counted for moderation (R123), at a tick. -/
def EventWriter.count (e : EventWriter) (tick : Tick) : EventWriter :=
  if e.threshold ≤ e.moderation + 1 then
    { e with moderation := 0, holdoffTimer := none, interrupt := { e.interrupt with events := true } }
  else
    { e with
      moderation := e.moderation + 1
      holdoffTimer :=
        match e.holdoffTimer with
        | some x => some x
        | none => if e.holdoff = 0 then none else some (tick + BitVec.ofNat 48 e.holdoff) }

/-- The EQ tail advances by 1, and the lap parity changes when it comes to index 0 (R116, R117). -/
def EventWriter.advance (e : EventWriter) : EventWriter :=
  let t := (e.tail + 1) % e.size
  { e with
    tail := t, lapParity := if t = 0 then !e.lapParity else e.lapParity, inFlight := none, request := .none }

/-- The event in flight is a CMD_DONE. -/
def EventWriter.carriesCmdDone (e : EventWriter) : Bool :=
  match e.inFlight with
  | none => false
  | some f =>
    match f.content with
    | .cmdDone _ => true
    | .captureDone _ => false
    | .acqHalt _ => false
    | .bufferReject _ => false
    | .watchReport _ => false

/-- The Command Unit learns that its CMD_DONE was answered OK (R113, R145). -/
def State.cmdDoneWritten (s : State) : State :=
  (if s.cmd.state = .posting then s.withCmd { s.cmd with state := .idle } else s).checkCommandFetch

/-- The response to the EQ write, taken in ENABLED (R116). -/
def State.eqWritten (s : State) (ans : Answer) : State :=
  match ans with
  | .ok =>
    let t := s.withEvt (s.evt.advance.count s.tick)
    if s.evt.carriesCmdDone then t.cmdDoneWritten else t
  | .error => (s.withEvt { s.evt with inFlight := none, request := .none }).fatal .eqWrite

/-- A response at the Event Writer: taken in ENABLED; in FAULTED an OK advances the tail and an ERROR is reported (R130);
absorbed otherwise (R131). -/
def State.toWriter (s : State) (ans : Answer) : State :=
  let absorbed := s.withEvt { s.evt with inFlight := none, request := .none }
  match s.ctl.device with
  | .enabled => s.eqWritten ans
  | .faulted =>
    match ans with
    | .ok => s.withEvt s.evt.advance
    | .error => absorbed.fatal .eqWrite
  | .disabled => absorbed
  | .starting => absorbed
  | .stopping => absorbed
  | .resetting => absorbed

/-! ### Slots, and delivery -/

/-- A response at a slot, by the device state (R80, R94, R95); one that ends FILLING lets a held START check its conditions
(R69). -/
def State.toSlot (s : State) (i : SlotId) (tag : Tag) (ans : Answer) : State :=
  match s.ctl.device with
  | .enabled => (s.setSlot i ((s.slot i).onResponse s.acq tag ans)).checkStart
  | .faulted => s.setSlot i ((s.slot i).onResponseFaulted tag ans)
  | .stopping => s.setSlot i (s.slot i).onResponseLeaving
  | .resetting => s.setSlot i (s.slot i).onResponseLeaving
  | .disabled => s
  | .starting => s

/-- An answer is delivered to the owner of an entry (R155, R157). -/
def State.deliver (s : State) (q : Requester) (tag : Tag) (ans : Answer) (data : ReadData) : State :=
  match q with
  | .control => s.toControl ans data
  | .command => s.toCommand ans data
  | .fetcher => s.toFetcher ans data
  | .writer => s.toWriter ans
  | .slot i => s.toSlot i tag ans

/-- A Host Link response is taken, by the state of its tag's entry (R155). -/
def State.takeResponse (s : State) (r : Response) : State :=
  match s.entry r.tag with
  | .free => s
  | .stale _ _ => s.setEntry r.tag .free
  | .active q _ _ => ((s.setEntry r.tag .free).deliver q r.tag r.answer r.data).endPassage

/-- The expiry of an ACTIVE entry is taken, once the tick count has reached it (R157): the entry becomes STALE, and ERROR is
delivered to its owner. -/
def State.takeExpiry (s : State) (tag : Tag) : State :=
  match s.entry tag with
  | .active q size (some e) =>
    if reached s.tick e then
      ((s.setEntry tag (.stale size (some e))).deliver q tag .error 0).endPassage
    else s
  | .active _ _ none => s
  | .free => s
  | .stale _ _ => s

/-! ### The commands of this family -/

/-- GRANT (R151, R152). -/
def execGrant (s : State) : Host.Outcome State Fault Refusal := .next s.makeGrant

/-- CQ_READ_RESPONSE (R137): a Host Link response; the Command Unit takes it when the tag's entry is its CQ read. -/
def execCqReadResponse (r : Response) (s : State) : Host.Outcome State Fault Refusal := .next (s.takeResponse r)

/-- NOP (R142): the OK response that brings a NOP record, completed at the take. -/
def execNop (tag : Tag) (record : ReadData) (s : State) : Host.Outcome State Fault Refusal :=
  .next (s.takeResponse { tag := tag, answer := .ok, data := record })

/-- SNAPSHOT_WRITE_RESPONSE (R143): a Host Link response; the Command Unit takes it when the tag's entry is its snapshot
write. -/
def execSnapshotWriteResponse (r : Response) (s : State) : Host.Outcome State Fault Refusal := .next (s.takeResponse r)

/-- BURST_WRITE_RESPONSE (R80): a Host Link response; a slot takes it when the tag's entry is its burst. -/
def execBurstWriteResponse (r : Response) (s : State) : Host.Outcome State Fault Refusal := .next (s.takeResponse r)

/-- BQ_READ_RESPONSE (R102): a Host Link response; the Buffer Fetcher takes it when the tag's entry is its read. -/
def execBqReadResponse (r : Response) (s : State) : Host.Outcome State Fault Refusal := .next (s.takeResponse r)

/-- SETUP_READ_RESPONSE (R169): a Host Link response; the Control Unit takes it when the tag's entry is its read. -/
def execSetupReadResponse (r : Response) (s : State) : Host.Outcome State Fault Refusal := .next (s.takeResponse r)

/-- LATE_RESPONSE (R155): a Host Link response, discarded when the tag's entry is STALE or FREE. -/
def execLateResponse (r : Response) (s : State) : Host.Outcome State Fault Refusal := .next (s.takeResponse r)

/-- EQ_WRITE_RESPONSE (R116): a Host Link response; the Event Writer takes it when the tag's entry is its write. -/
def execEqWriteResponse (r : Response) (s : State) : Host.Outcome State Fault Refusal := .next (s.takeResponse r)

/-- RESPONSE_LIMIT_EXPIRY (R157). -/
def execResponseLimitExpiry (tag : Tag) (s : State) : Host.Outcome State Fault Refusal := .next (s.takeExpiry tag)

end Sys2Proof.Machine
end

