-- ==== Sys2Proof/Machine/Registers.lean ====
section
/-! DEFINITION. Host writes to the register window (R163): the tails and the head (R134, R98, R119), INTERRUPT (R126),
CONTROL (R164, R168, R173, R174), SETUP_LO, SETUP_HI and STATUS (R165). Every write is ignored while RESETN is asserted
(R178). -/

namespace Sys2Proof.Machine

/-! ### Tails and head -/

/-- The judgement of a written tail index (R134, R98). -/
inductive TailVerdict where
  | outOfRange
  | unchanged
  | raised (t : Nat)
  deriving DecidableEq, Repr

/-- A written tail value judged against size, head and available (R134, R98, R183). -/
def judgeTail (size head available : Nat) (v : Word) : TailVerdict :=
  if size ≤ v.toNat then .outOfRange
  else if ringDistance size head v.toNat < available then .outOfRange
  else if ringDistance size head v.toNat = available then .unchanged
  else .raised v.toNat

/-- CQ_TAIL_WRITE (R134): taken in ENABLED, ignored otherwise (R163). -/
def execCqTailWrite (v : Word) (s : State) : Host.Outcome State Fault Refusal :=
  .next
    (if s.ctl.device = .enabled ∧ s.resetAsserted = false then
      match judgeTail s.cmd.size s.cmd.head s.cmd.available v with
      | .outOfRange => s.fatal .cqTailRange
      | .unchanged => s
      | .raised t => (s.withCmd { s.cmd with tail := t }).checkCommandFetch
    else s)

/-- BQ_TAIL_WRITE (R98): taken in ENABLED, ignored otherwise (R163). -/
def execBqTailWrite (v : Word) (s : State) : Host.Outcome State Fault Refusal :=
  .next
    (if s.ctl.device = .enabled ∧ s.resetAsserted = false then
      match judgeTail s.fetch.size s.fetch.head s.fetch.available v with
      | .outOfRange => s.fatal .bqTailRange
      | .unchanged => s
      | .raised t => (s.withFetch { s.fetch with tail := t }).checkBufferFetch
    else s)

/-- EQ_HEAD_WRITE (R119): taken in ENABLED, ignored otherwise (R163). -/
def execEqHeadWrite (v : Word) (s : State) : Host.Outcome State Fault Refusal :=
  .next
    (if s.ctl.device = .enabled ∧ s.resetAsserted = false then
      if s.evt.size ≤ v.toNat ∨ s.evt.fill < ringDistance s.evt.size v.toNat s.evt.tail then s.fatal .eqHeadRange
      else s.withEvt { s.evt with head := v.toNat }
    else s)

/-! ### INTERRUPT -/

/-- INTERRUPT_WRITE (R126): taken in every device state. -/
def execInterruptWrite (v : Word) (s : State) : Host.Outcome State Fault Refusal :=
  .next
    (if s.resetAsserted then s
    else s.withEvt { s.evt with interrupt := s.evt.interrupt.write v })

/-! ### CONTROL -/

/-- The entry into STARTING (R168). -/
def State.enterStarting (s : State) : State :=
  { s with
    ctl :=
      { s.ctl with
        device := .starting, enable := true, faultCode := .none, multi := false, checkedSetup := none,
        setupRequest := .standing }
    port := { s.port with limitInForce := Config.startUpLimit } }

/-- The entry into STOPPING or RESETTING: ENABLE becomes 0 and every block stops; with no entry ACTIVE the passage ends in
the same event (R173, R174). -/
def State.leave (s : State) (d : DeviceState) : State :=
  let t := s.stopBlocks d
  (t.withCtl { t.ctl with enable := false }).endPassage

/-- A write to CONTROL: bit 0 is ENABLE, bit 1 is RESET, the rest is ignored (R164, R183). -/
def State.writeControl (s : State) (v : Word) : State :=
  if s.resetAsserted then s
  else if v.getLsbD 1 then
    (if s.ctl.device = .resetting then s else s.leave .resetting)
  else if v.getLsbD 0 then
    (if s.ctl.device = .disabled then s.enterStarting else s)
  else
    match s.ctl.device with
    | .starting => s.leave .stopping
    | .enabled => s.leave .stopping
    | .faulted => s.leave .stopping
    | .disabled => s
    | .stopping => s
    | .resetting => s

/-- ENABLE (R164, R168): a write to CONTROL, of the row ENABLE when bit 0 is 1 and bit 1 is 0. -/
def execEnable (v : Word) (s : State) : Host.Outcome State Fault Refusal := .next (s.writeControl v)

/-- DISABLE (R164, R173): a write to CONTROL, of the row DISABLE when bits 0 and 1 are 0. -/
def execDisable (v : Word) (s : State) : Host.Outcome State Fault Refusal := .next (s.writeControl v)

/-- SOFT_RESET (R164, R174): a write to CONTROL, of the row SOFT_RESET when bit 1 is 1. -/
def execSoftReset (v : Word) (s : State) : Host.Outcome State Fault Refusal := .next (s.writeControl v)

/-! ### SETUP_LO, SETUP_HI, STATUS -/

/-- REGISTER_WRITE (R163, R165): SETUP_LO and SETUP_HI are taken in DISABLED, STATUS is read-only. The six lowest bits of a
value written to SETUP_LO are discarded. -/
def execRegisterWrite (reg : PlainRegister) (v : Word) (s : State) : Host.Outcome State Fault Refusal :=
  .next
    (if s.ctl.device = .disabled ∧ s.resetAsserted = false then
      match reg with
      | .setupLo =>
        s.withCtl
          { s.ctl with
            setupAddress := s.ctl.setupAddress.extractLsb' 32 32 ++ (v.extractLsb' 6 26 ++ (0 : BitVec 6)) }
      | .setupHi => s.withCtl { s.ctl with setupAddress := v ++ s.ctl.setupAddress.extractLsb' 0 32 }
      | .status => s
    else s)

end Sys2Proof.Machine
end

