-- ==== Sys2Proof/Machine/Dispatch.lean ====
section
/-! DEFINITION. The effect of each command: one arm per row of the table, each a call of that row's meaning. -/

namespace Sys2Proof.Machine

def exec (i : Instr) (s : State) : Host.Outcome State Fault Refusal :=
  match i with
  | .sampleArrival word => Sys2Proof.Machine.execSampleArrival word s
  | .sampleEvaluation extent => Sys2Proof.Machine.execSampleEvaluation extent s
  | .startOfRunNotice => Sys2Proof.Machine.execStartOfRunNotice s
  | .expiryRaised w => Sys2Proof.Machine.execExpiryRaised w s
  | .windowExpiry w => Sys2Proof.Machine.execWindowExpiry w s
  | .cqReadResponse r => Sys2Proof.Machine.execCqReadResponse r s
  | .nop tag record => Sys2Proof.Machine.execNop tag record s
  | .load => Sys2Proof.Machine.execLoad s
  | .arm => Sys2Proof.Machine.execArm s
  | .disarm => Sys2Proof.Machine.execDisarm s
  | .free => Sys2Proof.Machine.execFree s
  | .snapshot => Sys2Proof.Machine.execSnapshot s
  | .start => Sys2Proof.Machine.execStart s
  | .startTaken => Sys2Proof.Machine.execStartTaken s
  | .stop => Sys2Proof.Machine.execStop s
  | .cancel => Sys2Proof.Machine.execCancel s
  | .snapshotWriteResponse r => Sys2Proof.Machine.execSnapshotWriteResponse r s
  | .grant => Sys2Proof.Machine.execGrant s
  | .burstWriteResponse r => Sys2Proof.Machine.execBurstWriteResponse r s
  | .bqReadResponse r => Sys2Proof.Machine.execBqReadResponse r s
  | .setupReadResponse r => Sys2Proof.Machine.execSetupReadResponse r s
  | .lateResponse r => Sys2Proof.Machine.execLateResponse r s
  | .responseLimitExpiry tag => Sys2Proof.Machine.execResponseLimitExpiry tag s
  | .eventChoice => Sys2Proof.Machine.execEventChoice s
  | .eqWriteResponse r => Sys2Proof.Machine.execEqWriteResponse r s
  | .holdoffExpiry => Sys2Proof.Machine.execHoldoffExpiry s
  | .cqTailWrite value => Sys2Proof.Machine.execCqTailWrite value s
  | .bqTailWrite value => Sys2Proof.Machine.execBqTailWrite value s
  | .eqHeadWrite value => Sys2Proof.Machine.execEqHeadWrite value s
  | .interruptWrite value => Sys2Proof.Machine.execInterruptWrite value s
  | .enable value => Sys2Proof.Machine.execEnable value s
  | .disable value => Sys2Proof.Machine.execDisable value s
  | .softReset value => Sys2Proof.Machine.execSoftReset value s
  | .registerWrite reg value => Sys2Proof.Machine.execRegisterWrite reg value s
  | .resetPinAsserted lowPeriods => Sys2Proof.Machine.execResetPinAsserted lowPeriods s
  | .resetPinReleased => Sys2Proof.Machine.execResetPinReleased s
  | .refclkTick => Sys2Proof.Machine.execRefclkTick s

end Sys2Proof.Machine
end

