-- ==== Sys2Proof/Safety.lean ====
section
/-! DEFINITION. What a safe state of the TB6404 is: the properties the manual says hold at every moment, each as a
predicate on one state. Below them, the terms in which the statements say what a command changes and what it leaves. -/

namespace Sys2Proof.Machine

/-! ### Watch Table (chapter 1) -/

/-- A configuration that LOAD accepts, or that of a FREE context (R2, R3, Table 1-1). -/
abbrev WatchConfig.Legal (c : WatchConfig) : Prop :=
  c.skip ≤ Config.max24 ∧ c.window < 2 ^ 32 ∧ c.pre ≤ Config.maxPre ∧ c.post < 2 ^ 16 ∧
  (c.relatch = true → c.predecessor ≠ none) ∧ (c.capture = false → c.pre = 0 ∧ c.post = 0) ∧
  (c.test = .range → c.mask = 0 ∧ c.value = 0 ∧ 1 ≤ c.fieldWidth ∧ c.fieldOffset + c.fieldWidth ≤ 32 ∧
    c.low ≤ c.high ∧ c.high < 2 ^ c.fieldWidth) ∧
  (c.test = .masked → c.fieldOffset = 0 ∧ c.fieldWidth = 0 ∧ c.low = 0 ∧ c.high = 0)

/-- The unreported fields hold no fire (Table 1-2). -/
abbrev Watch.NoneUnreported (w : Watch) : Prop :=
  w.fireCount = 0 ∧ w.firstFire = none ∧ w.lastFire = none ∧ w.lastFireTick = 0 ∧ w.missed = 0

/-- What R4 and Table 1-2 say of every watch context at every moment. -/
abbrev Watch.Sound (w : Watch) : Prop :=
  w.config.Legal ∧
  (w.state = .free → w = .freeContext) ∧
  (w.state = .pending → w.config.predecessor ≠ none) ∧
  w.skipRemaining ≤ w.config.skip ∧
  (w.windowExpiry ≠ none → w.state = .live ∧ w.config.window ≠ 0) ∧
  (w.state = .live → w.config.window ≠ 0 → w.windowExpiry ≠ none) ∧
  (w.expiryRaised = true → w.windowExpiry ≠ none) ∧
  (w.endReason = .none ↔ w.state ≠ .done) ∧
  (w.fireCount = 0 → w.NoneUnreported) ∧
  (0 < w.fireCount → w.firstFire ≠ none ∧ w.lastFire ≠ none ∧ (w.state = .live ∨ w.state = .done)) ∧
  w.fireCount ≤ Config.maxFireCount ∧ w.missed ≤ Config.maxMissed

/-- Every watch context is sound. -/
abbrev State.WatchesSound (s : State) : Prop := ∀ w : WatchId, (s.watch w).Sound

/-- The Report List holds no id twice, and it holds exactly the watches that are DONE or have an unreported fire (R18). -/
abbrev State.ReportsExact (s : State) : Prop :=
  s.eng.reportList.Nodup ∧
  ∀ w : WatchId, w ∈ s.eng.reportList ↔ (s.watch w).state = .done ∨ 0 < (s.watch w).fireCount

/-- The watch reached from a watch by `n` predecessor references, if there is one. -/
def predecessorChain (watches : Vector Watch 64) : Nat → WatchId → Option WatchId
  | 0, w => some w
  | n + 1, w =>
    match (tget watches w).config.predecessor with
    | none => none
    | some p => predecessorChain watches n p

/-- Following predecessors from a non-FREE watch never returns to it, and every predecessor a non-FREE watch names is itself
non-FREE (R12). -/
def State.ChainsSound (s : State) : Prop :=
  ∀ w : WatchId, (s.watch w).state ≠ .free →
    (∀ n, predecessorChain s.eng.watches (n + 1) w ≠ some w) ∧
    ∀ p, (s.watch w).config.predecessor = some p → (s.watch p).state ≠ .free

/-! ### History Ring (chapter 3) -/

/-- The ring's store is in canonical form, and it holds at most 2048 entries (R57). -/
abbrev State.RingSound (s : State) : Prop := ringWf s.acq.ring = true ∧ s.acq.heldCount ≤ Config.ringDepth

/-! ### Captures and buffers (chapters 4 and 5) -/

/-- A descriptor that passes the checks of R103. -/
abbrev Descriptor.Legal (d : Descriptor) : Prop :=
  1 ≤ d.capacity ∧ d.capacity ≤ Config.maxCapacity ∧ aligned64 d.address = true

/-- The entries of a burst list. -/
def burstTotal (l : List BurstRecord) : Nat := (l.map (·.count)).sum

/-- What chapter 4 says of every Capture Slot at every moment: a FREE slot holds the values of Table 4-1; a non-FREE slot
holds a legal descriptor; its window fits its buffer; the entries granted are those below next-to-copy and never more than
the buffer's capacity; only a FILLING slot has a request standing; and CLOSING and POSTING have an end status, POSTING with
no write outstanding. -/
abbrev Slot.Sound (sl : Slot) : Prop :=
  (sl.state = .free → sl = .freeSlot) ∧
  (sl.state ≠ .free →
    (1 ≤ sl.capacity ∧ sl.capacity ≤ Config.maxCapacity ∧ aligned64 sl.buffer = true) ∧
    sl.pos sl.windowEnd < sl.capacity ∧ sl.pos sl.windowEnd < 66560 ∧
    sl.leading + burstTotal sl.bursts = sl.pos sl.nextToCopy ∧
    sl.leading + burstTotal sl.bursts ≤ sl.capacity) ∧
  sl.bursts.length ≤ Config.burstListDepth ∧
  (sl.requestStanding = true → sl.state = .filling ∧ sl.bursts.length < Config.burstListDepth) ∧
  (sl.state = .filling → sl.pos sl.nextToCopy ≤ sl.pos sl.windowEnd ∧
    (sl.flushing = false → sl.status = none) ∧ (sl.flushing = true → sl.status = some .truncated)) ∧
  (sl.state = .closing ∨ sl.state = .posting → sl.status ≠ none) ∧
  (sl.state = .posting → sl.outstanding = 0)

/-- The cached descriptors are legal, and the configurations that a capture request reads keep its window short. -/
abbrev State.CapturesSound (s : State) : Prop :=
  (∀ i : SlotId, (s.slot i).Sound) ∧ (∀ d ∈ s.cap.cache, d.Legal) ∧ ∀ w : WatchId, (s.watch w).config.Legal

/-- What chapter 5 says of the Buffer Fetcher at every moment: the cache and the Rejection List hold at most 4, a batch is
held exactly while a read is in flight, it has room in the cache, and the Rejection List is empty while a fetch is requested
or in flight (R100, R101, R102). -/
abbrev State.SupplySound (s : State) : Prop :=
  s.cap.cache.length ≤ Config.cacheDepth ∧ s.fetch.rejections.length ≤ 4 ∧
  (s.fetch.fetch = .reading ↔ s.fetch.batch ≠ none) ∧
  (∀ b, s.fetch.batch = some b → s.cap.cache.length + b.length ≤ Config.cacheDepth ∧ s.fetch.rejections = []) ∧
  (s.fetch.fetch = .requested → s.fetch.rejections = [])

/-! ### Rings in host memory (chapters 5, 6 and 7) -/

/-- Head and tail of each ring lie below its size. -/
abbrev State.IndicesInRange (s : State) : Prop :=
  (s.cmd.head < s.cmd.size ∧ s.cmd.tail < s.cmd.size) ∧ (s.fetch.head < s.fetch.size ∧ s.fetch.tail < s.fetch.size) ∧
  (s.evt.head < s.evt.size ∧ s.evt.tail < s.evt.size)

/-- The event in flight, if there is one, goes to the index at the tail with the lap parity as its phase, and the EQ has
room for it: it goes into a slot the host has released (R112, R117, R118). -/
abbrev State.EventSlotReleased (s : State) : Prop :=
  (s.evt.head < s.evt.size ∧ s.evt.tail < s.evt.size) ∧
  ∀ e, s.evt.inFlight = some e → e.index = s.evt.tail ∧ e.phase = s.evt.lapParity ∧ s.evt.fill < s.evt.size - 1

/-- While ENABLED the moderation count is below the threshold, and a RUNNING holdoff timer has an event counted and a
holdoff above 0 (R123, R124). -/
abbrev State.ModerationSound (s : State) : Prop :=
  s.ctl.device = .enabled →
    s.evt.moderation < s.evt.threshold ∧
    (s.evt.holdoffTimer ≠ none → 0 < s.evt.moderation ∧ 0 < s.evt.holdoff)

/-- While ENABLED every block holds its part of a checked setup whose values are legal (R97, R109, R133, R156, R170,
R172). -/
def State.SetupSound (s : State) : Prop :=
  s.ctl.device = .enabled →
    ∃ b : Setup, s.ctl.checkedSetup = some b ∧ b.legal = true ∧
      (s.cmd.base = b.cqBase ∧ s.cmd.sizeCode = b.cqSizeCode) ∧ (s.fetch.base = b.bqBase ∧ s.fetch.sizeCode = b.bqSizeCode) ∧
      (s.evt.base = b.eqBase ∧ s.evt.sizeCode = b.eqSizeCode ∧ s.evt.threshold = b.threshold ∧ s.evt.holdoff = b.holdoff) ∧
      s.port.limitInForce = b.responseLimit

/-! ### Runs of acquisition (chapter 3) -/

/-- Acquisition is IDLE while an ACQ_HALT is pending, while a START is held and outside ENABLED (R60, R63, R66); and a
presented sample exists in ENABLED only, was accepted less than 8 REFCLK periods ago (R187), is the newest in the ring,
and its ring entry is its own (R55, R56, R63); an evaluation in progress has a presented sample, and no start-of-run
notice waits (R50, R61). -/
abbrev State.RunSound (s : State) : Prop :=
  (s.acq.pendingHalt ≠ none → s.acq.state = .idle) ∧
  (s.acq.heldStart = true → s.acq.state = .idle) ∧
  (s.ctl.device ≠ .enabled → s.acq.state = .idle ∧ s.acq.heldStart = false ∧ s.eng.presented = none) ∧
  (∀ p, s.eng.presented = some p →
    ((s.tick - p.arrivalTick).toNat < 8 ∧ s.acq.newest = some p.number ∧
      s.acq.entryOf p.number = { data := p.data, tickLow := p.arrivalTick.setWidth 32 })) ∧
  (s.eng.begun = true → s.eng.presented ≠ none ∧ s.eng.noticeWaiting = false)

/-- No START is left held once its conditions hold: while one is held a sample is outstanding, a slot is FILLING or an
ACQ_HALT is pending (R60). -/
abbrev State.NoStartLeft (s : State) : Prop :=
  s.acq.heldStart = true → s.eng.presented ≠ none ∨ (∃ i, (s.slot i).state = .filling) ∨ s.acq.pendingHalt ≠ none

/-! ### Requests of the Capture Slots (chapter 4) -/

/-- How many window samples are present from next-to-copy up, by the newest sample number (R76): those up to the lower
of the window end and the newest. -/
def Slot.runTo (sl : Slot) : Option SampleNo → Nat
  | none => 0
  | some n => min (sl.pos sl.windowEnd) (sl.pos n) + 1 - sl.pos sl.nextToCopy

/-- The newest sample is at or above the window end (R76). -/
def Slot.endPresent (sl : Slot) : Option SampleNo → Bool
  | none => false
  | some n => decide (sl.pos sl.windowEnd ≤ sl.pos n)

/-- The conditions of R76 hold: the slot has to ask for a burst. -/
abbrev Slot.MustAsk (sl : Slot) (newest : Option SampleNo) : Prop :=
  sl.state = .filling ∧ sl.requestStanding = false ∧ sl.bursts.length < 8 ∧
    (16 ≤ sl.runTo newest ∨
      (1 ≤ sl.runTo newest ∧ (sl.flushing = true ∨ sl.endPresent newest = true)))

/-- `x` is the slot after the check of R76: it has a request standing if it had one or has to ask, and nothing else
differs. -/
abbrev Slot.Checked (sl : Slot) (newest : Option SampleNo) (x : Slot) : Prop :=
  x = { sl with requestStanding := x.requestStanding } ∧
    (x.requestStanding = true ↔ sl.requestStanding = true ∨ sl.MustAsk newest)

/-- `x` is the slot after an end-of-run notice that names sample `n` (R84): a FILLING slot whose window end lies above it is
cut there, TRUNCATED, and flushes, or ends at once when nothing is left to copy; every other slot stays. The check of R76
follows. -/
abbrev Slot.CutAt (sl : Slot) (newest : Option SampleNo) (n : SampleNo) (x : Slot) : Prop :=
  let cut : Slot :=
    { sl with windowEnd := n, status := some (sl.status.getD .truncated), flushing := true }
  if sl.state = .filling ∧ sl.flushing = false ∧ sl.pos n < sl.pos sl.windowEnd then
    if sl.pos sl.nextToCopy ≤ sl.pos n then cut.Checked newest x
    else x = { cut with state := if sl.outstanding = 0 then .posting else .closing, requestStanding := false }
  else sl.Checked newest x

/-- What R75, R76, R78 and R82 to R85 say of the slots at every moment: the newest sample reaches the window start of a
FILLING slot, its next-to-copy is at most one above the newest, and every sample from there to the newest is still in
the ring; while it flushes, acquisition is IDLE, and so it is while a sample is presented under a run-end mark; a
standing request has at least 1 entry to send; while ENABLED no slot that has to ask fails to; and no slot is FILLING
before the entry into ENABLED. -/
abbrev State.CopiesSound (s : State) : Prop :=
  (∀ i, (s.slot i).state = .filling →
    (let arrived := (s.slot i).pos s.acq.sampleCounter
     1 ≤ arrived ∧ (s.slot i).pos (s.slot i).nextToCopy ≤ arrived ∧
       arrived ≤ (s.slot i).pos (s.slot i).nextToCopy + s.acq.heldCount) ∧
    ((s.slot i).flushing = true → s.acq.state = .idle) ∧ s.ctl.device ≠ .disabled ∧ s.ctl.device ≠ .starting) ∧
  (∀ i, (s.slot i).requestStanding = true → 1 ≤ (s.slot i).runTo s.acq.newest) ∧
  (s.ctl.device = .enabled → ∀ i, ¬ (s.slot i).MustAsk s.acq.newest) ∧
  (s.eng.presented ≠ none → s.cap.runEndMark ≠ none → s.acq.state = .idle)

/-! ### Memory Port (chapter 8) -/

/-- Every ACTIVE entry belongs to a requester that waits for it: the Control Unit, the Command Unit, the Buffer Fetcher and
the Event Writer have one ACTIVE entry exactly while their request is outstanding, and a slot has as many as it has
outstanding writes; in DISABLED there is none, and in STARTING only the Control Unit may have one (R149, R151, R161). The
Control Unit asks in STARTING only, the others in ENABLED only (R151). The Event Writer has a request exactly while an event
is in flight (R115), and while ENABLED the Command Unit has one exactly while it fetches or writes a snapshot (R136,
R143). -/
abbrev State.RequestsOwned (s : State) : Prop :=
  (s.port.activeCount .control = (if s.ctl.setupRequest = .outstanding then 1 else 0) ∧
    s.port.activeCount .command = (if s.cmd.link = .outstanding then 1 else 0) ∧
    s.port.activeCount .fetcher = (if s.fetch.fetch = .reading then 1 else 0) ∧
    s.port.activeCount .writer = (if s.evt.request = .outstanding then 1 else 0) ∧
    ∀ i : SlotId, s.port.activeCount (.slot i) = (s.slot i).outstanding) ∧
  (s.ctl.device = .disabled → s.port.someActive = false) ∧
  (s.ctl.device = .starting → ∀ q, q ≠ .control → s.port.activeCount q = 0) ∧
  (s.ctl.device ≠ .starting → s.standing .control = false) ∧
  (s.ctl.device ≠ .enabled → ∀ q, q ≠ .control → s.standing q = false) ∧
  (s.evt.inFlight = none ↔ s.evt.request = .none) ∧
  (s.ctl.device = .enabled → (s.cmd.link = .none ↔ s.cmd.state ≠ .fetching ∧ s.cmd.snapshot = none))

/-! ### Command Unit (chapter 7) -/

/-- The current command is of this kind. -/
abbrev State.CurrentKind (s : State) (k : CommandKind) : Prop :=
  s.cmd.current.map (fun c => kindOf c.record.kind) = some (some k)

/-- The Command Unit has at most one command between its take and its written completion: a current command exactly while
EXECUTING, one that has passed the common checks; a held completion only while POSTING; a snapshot content, a held START and
a CANCEL in progress only for the command that made them; outside ENABLED no command at all; a completion kept frozen only after the part has left ENABLED; and while ENABLED it is POSTING
exactly while its completion is held or in flight, never both (R113, R130, R138, R140, R141, R143, R146). -/
abbrev State.CommandSound (s : State) : Prop :=
  (s.cmd.state = .executing ↔ s.cmd.current ≠ none) ∧
  (s.cmd.held ≠ none → s.cmd.state = .posting) ∧
  (s.cmd.snapshot ≠ none → s.CurrentKind .snapshot) ∧
  (s.acq.heldStart = true → s.CurrentKind .start ∧ s.acq.state = .idle) ∧
  (s.cap.cancelling ≠ none → s.CurrentKind .cancel) ∧
  (∀ c, s.cmd.current = some c → c.record.takeRefusal = none ∧ kindOf c.record.kind ≠ some .nop) ∧
  (s.ctl.device ≠ .enabled → s.cmd.state = .idle) ∧
  (s.ctl.device = .disabled ∨ s.ctl.device = .starting ∨ s.ctl.device = .enabled → s.evt.keptCompletion = none) ∧
  (s.ctl.device = .enabled →
    (s.cmd.state = .posting ↔ s.cmd.held ≠ none ∨ s.evt.carriesCmdDone = true) ∧
    (s.cmd.held ≠ none → s.evt.carriesCmdDone = false))

/-! ### What a command changes -/

/-- One watch context is replaced, and no other. -/
abbrev State.WatchReplaced (s t : State) (w : WatchId) (x : Watch) : Prop :=
  t.watch w = x ∧ ∀ v, v ≠ w → t.watch v = s.watch v

/-- One Capture Slot is replaced, and no other. -/
abbrev State.SlotReplaced (s t : State) (i : SlotId) (x : Slot) : Prop :=
  t.slot i = x ∧ ∀ j, j ≠ i → t.slot j = s.slot j

/-- One Request Table entry is replaced, and no other. -/
abbrev State.EntryReplaced (s t : State) (tag : Tag) (x : PortEntry) : Prop :=
  t.entry tag = x ∧ ∀ u, u ≠ tag → t.entry u = s.entry u

/-- An ACTIVE entry of this requester ended: its response or its expiry was taken (R155, R157). -/
abbrev State.EndedFor (s t : State) (q : Requester) : Prop :=
  ∃ tag size e, s.entry tag = .active q size e ∧ (t.entry tag).isActive = false

/-- The tag a command's response names, if it is a response of the Host Link (R155). -/
def answeredTag : Instr → Option Tag
  | .cqReadResponse r => some r.tag
  | .nop tag _ => some tag
  | .snapshotWriteResponse r => some r.tag
  | .burstWriteResponse r => some r.tag
  | .bqReadResponse r => some r.tag
  | .setupReadResponse r => some r.tag
  | .lateResponse r => some r.tag
  | .eqWriteResponse r => some r.tag
  | _ => none

/-- Every Request Table entry is as it was but the one whose response or expiry this command takes: a response leaves its
entry FREE, and the expiry of an ACTIVE entry leaves it STALE (R155, R157). -/
abbrev State.EntriesKept (s t : State) (c : Instr) : Prop :=
  ∀ tag, t.entry tag = s.entry tag ∨ (answeredTag c = some tag ∧ t.entry tag = .free) ∨
    (c = .responseLimitExpiry tag ∧
      ∃ q size e, s.entry tag = .active q size (some e) ∧ t.entry tag = .stale size (some e))

/-- The passage through STOPPING or RESETTING waits for another ACTIVE entry than this one (R161, R173, R174). -/
abbrev State.PassageWaits (s : State) (tag : Tag) : Prop :=
  (s.ctl.device = .stopping ∨ s.ctl.device = .resetting) ∧ ∃ u, u ≠ tag ∧ (s.entry u).isActive = true

/-- A command of this kind has been taken and waits at its owner (R140). -/
abbrev State.Dispatched (s : State) (k : CommandKind) (c : CurrentCommand) : Prop :=
  s.ctl.device = .enabled ∧ s.cmd.state = .executing ∧ s.cmd.current = some c ∧ kindOf c.record.kind = some k

/-- The Command Unit with a command completed: its CMD_DONE content held, in POSTING (R141). -/
def CommandUnit.completedWith (u : CommandUnit) (c : CurrentCommand) (st : CmdStatus) (detail : Option Byte) :
    CommandUnit :=
  { u with
    state := .posting
    current := none
    held :=
      some { tag := c.record.tag, kind := c.record.kind, status := st, headAfter := c.headAfter, detail := detail } }

/-- The value a command writes to CONTROL, if it is a CONTROL write. -/
def controlValue : Instr → Option Word
  | .enable v => some v
  | .disable v => some v
  | .softReset v => some v
  | _ => none

/-- A command writes 1 to CONTROL.RESET. -/
abbrev writesReset (c : Instr) : Prop := ∃ v, controlValue c = some v ∧ v.getLsbD 1 = true

/-- A command is a level change of RESETN that acts on the part (R178, R187). -/
abbrev State.pinActs (s : State) (c : Instr) : Prop :=
  (∃ n, c = .resetPinAsserted n ∧ 16 ≤ n) ∨ (c = .resetPinReleased ∧ s.resetAsserted = true)

/-- How many of these samples, taken one after another, are occurrences for a watch. -/
def Watch.occurrencesIn (w : Watch) : List PresentedSample → Nat
  | [] => 0
  | p :: rest => (if w.occurs p.data then 1 else 0) + (w.evaluate p).occurrencesIn rest

/-- A watch after these samples, taken one after another. -/
def Watch.afterSamples (w : Watch) (ps : List PresentedSample) : Watch := ps.foldl (fun x p => x.evaluate p) w

/-- The missed capture count with one more refused request, up to 255 (R36). -/
def oneMoreMissed (n : Nat) : Nat := if n < 255 then n + 1 else n

/-- The watches that fire on a sample and ask for a capture, in ascending id (R35). -/
def State.requesters (s : State) (p : PresentedSample) : List WatchId :=
  (List.finRange 64).filter fun w => (s.watch w).fires p.data && (s.watch w).config.capture

/-- The FREE slots, the lowest-numbered first (R70). -/
def State.freeSlots (s : State) : List SlotId := (List.finRange 4).filter fun i => (s.slot i).state == .free

/-- The sample ends its run: acquisition is RUNNING, and some watch that fires on it asks for a halt (R37, R63). -/
def State.haltTaken (s : State) (p : PresentedSample) : Bool :=
  s.acq.state == .running &&
    (List.finRange 64).any fun w => (s.watch w).fires p.data && (s.watch w).config.halt

/-- What the evaluation of a sample leaves of the Watch Engine: the fired watches join the Report List in ascending id;
every LIVE watch has taken the sample; each successor of a fired watch that is PENDING, or LIVE with relatch, is entered
into LIVE; `missed` is each watch's missed capture count (R24, R33, R36, R38, R39, R41, R5). -/
abbrev State.Evaluated (s t : State) (p : PresentedSample) (missed : WatchId → Nat) : Prop :=
  let fired (w : WatchId) : Bool := (s.watch w).fires p.data
  t.eng = { s.eng with
    watches := t.eng.watches
    reportList := s.eng.reportList ++ (List.finRange 64).filter (fun w => fired w && !decide (w ∈ s.eng.reportList))
    lastEvaluated := some p.number
    presented := none
    begun := false } ∧
  ∀ w,
    let x : Watch := { (s.watch w).evaluate p with missed := missed w }
    t.watch w =
      if (∃ q, (s.watch w).config.predecessor = some q ∧ fired q = true) ∧
          (x.state = .pending ∨ (x.state = .live ∧ x.config.relatch = true)) then
        { x with
          state := .live, skipRemaining := x.config.skip, previous := .unknown, expiryRaised := false,
          windowExpiry := if x.config.window = 0 then none else some (s.tick + BitVec.ofNat 48 x.config.window) }
      else x

/-- What becomes of a presented sample when the part leaves ENABLED (R50): one whose evaluation has begun is completed, with
every capture request refused, and one not yet taken is closed without evaluation. -/
abbrev State.SampleClosed (s t : State) : Prop :=
  (s.eng.presented = none ∨ s.eng.begun = false → t.eng = { s.eng with presented := none }) ∧
  ∀ p, s.eng.presented = some p → s.eng.begun = true →
    s.Evaluated t p fun w =>
      if (s.watch w).fires p.data = true ∧ (s.watch w).config.capture = true then oneMoreMissed (s.watch w).missed
      else (s.watch w).missed

/-- The unsigned number some bytes hold, the least significant first (R180). -/
def leValue : List Byte → Nat
  | [] => 0
  | b :: rest => b.toNat + 256 * leValue rest

/-- The `n`-byte field at a byte offset of a record (R180). -/
def fieldOf (record : List Byte) (off n : Nat) : Nat := leValue ((record.drop off).take n)

/-- How far a requester stands behind the grant pointer in the rotating order: 0 for the one after it (R151). -/
def Requester.distanceFrom (pointer q : Requester) : Nat := (q.place + 7 - pointer.place) % 8

/-- A requester can be granted: it has a standing request and fewer ACTIVE entries than its limit (R151). -/
abbrev State.Eligible (s : State) (q : Requester) : Prop :=
  s.standing q = true ∧ s.port.activeCount q < q.limit

end Sys2Proof.Machine
end

