-- ==== Sys2Proof/WellFormed.lean ====
section
/-! DEFINITION. Which commands spell the row their constructor stands for. Three rows are CONTROL writes told apart by
the value written (R164, R183), NOP is told by the kind code of the record (Table 10-3), and a low level on RESETN is an
assertion from its 16th REFCLK period on (R187). Every other command is told by its constructor alone. -/

namespace Sys2Proof

/-- The command is of the row its constructor names. -/
def WellFormed : Instr → Bool
  | .nop _ record => record.extractLsb' 0 8 == 0x01#8
  | .enable v => v.getLsbD 0 && !v.getLsbD 1
  | .disable v => !v.getLsbD 0 && !v.getLsbD 1
  | .softReset v => v.getLsbD 1
  | .resetPinAsserted n => decide (Config.resetPeriods ≤ n)
  | .sampleArrival _ => true
  | .sampleEvaluation _ => true
  | .startOfRunNotice => true
  | .expiryRaised _ => true
  | .windowExpiry _ => true
  | .cqReadResponse _ => true
  | .load => true
  | .arm => true
  | .disarm => true
  | .free => true
  | .snapshot => true
  | .start => true
  | .startTaken => true
  | .stop => true
  | .cancel => true
  | .snapshotWriteResponse _ => true
  | .grant => true
  | .burstWriteResponse _ => true
  | .bqReadResponse _ => true
  | .setupReadResponse _ => true
  | .lateResponse _ => true
  | .responseLimitExpiry _ => true
  | .eventChoice => true
  | .eqWriteResponse _ => true
  | .holdoffExpiry => true
  | .cqTailWrite _ => true
  | .bqTailWrite _ => true
  | .eqHeadWrite _ => true
  | .interruptWrite _ => true
  | .registerWrite _ _ => true
  | .resetPinReleased => true
  | .refclkTick => true

end Sys2Proof
end

