-- ==== Sys2Proof/Certificates/Slice0/Obligations.lean ====
section
/-! DEFINITION. The statements about the TB6404, each of them a proposition for the provers, in the order of the manual's
chapters. A statement about a command that completes says what the next state is: `{ s with … }` names the blocks that
change, and every block it does not name is as it was. -/

open Sys2Proof Sys2Proof.Machine

/-! ### Commands and the queue -/

/-- A step runs the command at the front of the queue on the state with the rest of the queue; every command in every state
answers a next state, and it neither reads nor changes the queue of the commands behind it. On an empty queue the part
idles: that clause is the model's choice (log entry 6). -/
def Obligations.StepRunsFront : Prop :=
  (∀ (c : Instr) (rest : List Instr) (s : State),
    step { s with pending := c :: rest } = exec c { s with pending := rest }) ∧
  (∀ s : State, s.pending = [] → step s = .next s) ∧
  ∀ (c : Instr) (s : State), ∃ t, exec c s = .next t ∧ t.pending = s.pending ∧
    ∀ q, exec c { s with pending := q } = .next { t with pending := q }

/-! ### Watch Table (chapter 1) -/

/-- R3: which LOAD records pass the field checks, field by field, and the configuration an accepted one asks for, fields
that do not apply as 0 (R2). -/
def Obligations.LoadFields : Prop :=
  ∀ r : CommandRecord,
    (r.config ≠ none ↔
      (r.test = 0 ∨ r.test = 1) ∧ (r.sense = 0 ∨ r.sense = 1 ∨ r.sense = 2) ∧ (r.mode = 0 ∨ r.mode = 1) ∧
      (r.test = 1 →
        r.fieldOffset.toNat ≤ 31 ∧ r.fieldWidth ≠ 0 ∧ r.fieldWidth.toNat ≤ 32 ∧
        r.fieldOffset.toNat + r.fieldWidth.toNat ≤ 32 ∧
        r.high.toNat < 2 ^ r.fieldWidth.toNat ∧ r.low.toNat ≤ r.high.toNat) ∧
      r.skip.toNat ≤ 16777215 ∧ (r.predecessor.toNat < 64 ∨ r.predecessor = 0xFF) ∧
      ¬ (r.options.getLsbD 0 = true ∧ r.predecessor = 0xFF) ∧
      (r.options.getLsbD 1 = true → r.pre.toNat ≤ 1024)) ∧
    ∀ c, r.config = some c →
      c.test = (if r.test = 0 then .masked else .range) ∧
      c.mask = (if r.test = 0 then r.mask else 0) ∧ c.value = (if r.test = 0 then r.value else 0) ∧
      c.fieldOffset = (if r.test = 1 then r.fieldOffset.toNat else 0) ∧
      c.fieldWidth = (if r.test = 1 then r.fieldWidth.toNat else 0) ∧
      c.low = (if r.test = 1 then r.low.toNat else 0) ∧ c.high = (if r.test = 1 then r.high.toNat else 0) ∧
      c.sense = (if r.sense = 0 then .level else if r.sense = 1 then .enter else .leave) ∧
      c.mode = (if r.mode = 0 then .single else .repeated) ∧
      c.skip = r.skip.toNat ∧ c.window = r.window.toNat ∧
      c.predecessor.map (fun p => p.val) = (if r.predecessor = 0xFF then none else some r.predecessor.toNat) ∧
      c.relatch = r.options.getLsbD 0 ∧ c.capture = r.options.getLsbD 1 ∧ c.halt = r.options.getLsbD 2 ∧
      c.pre = (if r.options.getLsbD 1 then r.pre.toNat else 0) ∧
      c.post = (if r.options.getLsbD 1 then r.post.toNat else 0)

/-- R10 and R11: the four checks of LOAD in their order, each with its status, and what an accepted LOAD writes. A loop is
found exactly when the walk from the loaded predecessor reaches the loaded watch (R13). -/
def Obligations.LoadChecked : Prop :=
  ∀ (s : State) (c : CurrentCommand) (w : WatchId), s.Dispatched .load c → s.eng.begun = false →
    watchOf c.record.watchId = some w →
    s.WatchesSound → s.ChainsSound →
    let refused (st : CmdStatus) : Prop :=
      exec .load s = .next { s with cmd := s.cmd.completedWith c st (some c.record.watchId) }
    let loops (p : WatchId) : Prop := ∃ n, predecessorChain s.eng.watches n p = some w
    ((s.watch w).state ≠ .free → (s.watch w).state ≠ .idle → refused .wrongState) ∧
    ((s.watch w).state = .free ∨ (s.watch w).state = .idle →
      (c.record.config = none → refused .badField) ∧
      ∀ cfg, c.record.config = some cfg →
        (∀ p, cfg.predecessor = some p → p = w ∨ (s.watch p).state = .free → refused .noPredecessor) ∧
        (∀ p, cfg.predecessor = some p → p ≠ w → (s.watch p).state ≠ .free → loops p → refused .chainLoop) ∧
        ((∀ p, cfg.predecessor = some p → p ≠ w ∧ (s.watch p).state ≠ .free ∧ ¬ loops p) →
          ∃ t, exec .load s = .next t ∧
            s.WatchReplaced t w
              { s.watch w with
                config := cfg, state := .idle, skipRemaining := 0, previous := .unknown, windowExpiry := none,
                expiryRaised := false, endReason := .none } ∧
            (t.watch w).NoneUnreported ∧
            t = { s with
                  eng := { s.eng with watches := t.eng.watches }
                  cmd := s.cmd.completedWith c .ok (some c.record.watchId) }))

/-- R14: ARM of an IDLE watch makes it LIVE, or PENDING when it names a predecessor; in every other state it is refused, and
nothing but the completion changes. -/
def Obligations.ArmTaken : Prop :=
  ∀ (s : State) (c : CurrentCommand) (w : WatchId), s.Dispatched .arm c → s.eng.begun = false →
    watchOf c.record.watchId = some w →
    ((s.watch w).state ≠ .idle →
      exec .arm s = .next { s with cmd := s.cmd.completedWith c .wrongState (some c.record.watchId) }) ∧
    ((s.watch w).state = .idle → ∃ t, exec .arm s = .next t ∧
      t = { s with
            eng := { s.eng with watches := t.eng.watches }
            cmd := s.cmd.completedWith c .ok (some c.record.watchId) } ∧
      ((s.watch w).config.predecessor = none →
        s.WatchReplaced t w
          { s.watch w with
            state := .live, skipRemaining := (s.watch w).config.skip, previous := .unknown, expiryRaised := false,
            windowExpiry :=
              if (s.watch w).config.window = 0 then none
              else some (s.tick + BitVec.ofNat 48 (s.watch w).config.window) }) ∧
      ((s.watch w).config.predecessor ≠ none →
        s.WatchReplaced t w
          { s.watch w with
            state := .pending, skipRemaining := (s.watch w).config.skip, previous := .unknown, expiryRaised := false,
            windowExpiry := none }))

/-- R15 and R9: DISARM of a PENDING or LIVE watch ends it, DISARMED, and it joins the Report List tail unless it is already
there; in every other state it is refused, and nothing but the completion changes. -/
def Obligations.DisarmTaken : Prop :=
  ∀ (s : State) (c : CurrentCommand) (w : WatchId), s.Dispatched .disarm c → s.eng.begun = false →
    watchOf c.record.watchId = some w →
    ((s.watch w).state ≠ .pending → (s.watch w).state ≠ .live →
      exec .disarm s = .next { s with cmd := s.cmd.completedWith c .wrongState (some c.record.watchId) }) ∧
    ((s.watch w).state = .pending ∨ (s.watch w).state = .live → ∃ t, exec .disarm s = .next t ∧
      s.WatchReplaced t w
        { s.watch w with
          state := .done, endReason := .disarmed, windowExpiry := none, expiryRaised := false } ∧
      t = { s with
            eng :=
              { s.eng with
                watches := t.eng.watches
                reportList := if w ∈ s.eng.reportList then s.eng.reportList else s.eng.reportList ++ [w] }
            cmd := s.cmd.completedWith c .ok (some c.record.watchId) })

/-- R17: FREE is refused unless the watch is IDLE and no non-FREE watch names it; an accepted FREE clears the context. -/
def Obligations.FreeTaken : Prop :=
  ∀ (s : State) (c : CurrentCommand) (w : WatchId), s.Dispatched .free c → s.eng.begun = false →
    watchOf c.record.watchId = some w →
    let named : Prop := ∃ v, (s.watch v).state ≠ .free ∧ (s.watch v).config.predecessor = some w
    ((s.watch w).state ≠ .idle →
      exec .free s = .next { s with cmd := s.cmd.completedWith c .wrongState (some c.record.watchId) }) ∧
    ((s.watch w).state = .idle → named →
      exec .free s = .next { s with cmd := s.cmd.completedWith c .hasSuccessor (some c.record.watchId) }) ∧
    ((s.watch w).state = .idle → ¬ named → ∃ t, exec .free s = .next t ∧
      s.WatchReplaced t w .freeContext ∧
      t = { s with
            eng := { s.eng with watches := t.eng.watches }
            cmd := s.cmd.completedWith c .ok (some c.record.watchId) })

/-- R21 and R22: a SNAPSHOT copies the content of its watch, in any watch state, and asks for the write; nothing else
changes. A window remaining is 0 from the tick at which the expiry is reached (log entry 3). -/
def Obligations.SnapshotTaken : Prop :=
  ∀ (s : State) (c : CurrentCommand) (w : WatchId), s.Dispatched .snapshot c → s.eng.begun = false →
    watchOf c.record.watchId = some w →
    s.cmd.snapshot = none →
    ∃ content : SnapshotContent,
      exec .snapshot s = .next { s with cmd := { s.cmd with snapshot := some content, link := .standing } } ∧
      content.watch = w ∧ content.asOf = s.eng.lastEvaluated ∧ content.state = (s.watch w).state ∧
      content.previous = (s.watch w).previous ∧ content.skipRemaining = (s.watch w).skipRemaining ∧
      ((s.watch w).windowExpiry = none → content.windowRemaining = none) ∧
      (∀ e, (s.watch w).windowExpiry = some e →
        content.windowRemaining =
          some (if (s.watch w).expiryRaised = true ∨ (s.tick - e).toNat < 2 ^ 47 then 0 else (e - s.tick).toNat)) ∧
      content.fireCount = (s.watch w).fireCount ∧ content.firstFire = (s.watch w).firstFire ∧
      content.lastFire = (s.watch w).lastFire ∧ content.missed = (s.watch w).missed ∧
      content.endReason = (s.watch w).endReason ∧ content.test = (s.watch w).config.test ∧
      content.sense = (s.watch w).config.sense ∧ content.mode = (s.watch w).config.mode ∧
      content.skip = (s.watch w).config.skip ∧ content.window = (s.watch w).config.window ∧
      content.predecessor = (s.watch w).config.predecessor ∧ content.relatch = (s.watch w).config.relatch ∧
      content.capture = (s.watch w).config.capture ∧ content.halt = (s.watch w).config.halt

/-- R2, as a property of the whole part: the configuration of a watch is changed by an accepted LOAD or FREE of that watch,
and otherwise only where the Watch Table is cleared as a whole: at the entry into DISABLED or ENABLED. -/
def Obligations.ConfigurationChangedBy : Prop :=
  ∀ (c : Instr) (s t : State) (w : WatchId), exec c s = .next t → (t.watch w).config ≠ (s.watch w).config →
    (t.eng = .cleared ∧ (t.ctl.device = .disabled ∨ t.ctl.device = .enabled ∧ s.ctl.device = .starting)) ∨
    ∃ cur, s.cmd.current = some cur ∧ watchOf cur.record.watchId = some w ∧
      ((c = .load ∧ s.Dispatched .load cur ∧ cur.record.config = some (t.watch w).config) ∨
        (c = .free ∧ s.Dispatched .free cur ∧ (t.watch w).config = .freeValues))

/-- R4 with Table 1-2 and R18, as an invariant: every watch context stays sound at every command, and the Report List
holds no id twice and holds exactly the watches that are DONE or have an unreported fire. -/
def Obligations.WatchTableStaysSound : Prop :=
  ∀ (c : Instr) (s t : State), s.WatchesSound → exec c s = .next t →
    t.WatchesSound ∧ (s.ReportsExact → t.ReportsExact)

/-- R12, as an invariant: no loop among predecessors, and no non-FREE watch names a FREE one. -/
def Obligations.ChainsStaySound : Prop :=
  ∀ (c : Instr) (s t : State), s.WatchesSound → s.ChainsSound → exec c s = .next t → t.ChainsSound

/-! ### Sample evaluation and firing (chapter 2) -/

/-- R26: the MATCH test, bit by bit; a LOAD with test MATCH stores the fields of RANGE as 0, and the test does not read
them. -/
def Obligations.MatchTest : Prop :=
  (∀ (c : WatchConfig) (sample : Word), c.test = .masked →
    ((c.testResult sample = true ↔
      ∀ i : Nat, i < 32 → c.mask.getLsbD i = true → sample.getLsbD i = c.value.getLsbD i) ∧
    (c.mask = 0 → c.testResult sample = true))) ∧
  ∀ (r : CommandRecord) (c : WatchConfig), r.config = some c → c.test = .masked →
    c.fieldOffset = 0 ∧ c.fieldWidth = 0 ∧ c.low = 0 ∧ c.high = 0

/-- R27: the RANGE test on the field whose lowest bit is bit field offset, as a sum of its weighted bits; a LOAD with test
RANGE stores mask and value as 0, and its checks put the field inside the word. -/
def Obligations.RangeTest : Prop :=
  (∀ (c : WatchConfig) (sample : Word), c.test = .range →
    let field := ((List.range c.fieldWidth).map fun i => if sample.getLsbD (c.fieldOffset + i) then 2 ^ i else 0).sum
    (field < 2 ^ c.fieldWidth ∧ (c.testResult sample = true ↔ c.low ≤ field ∧ field ≤ c.high)) ∧
    (c.fieldOffset = 0 → c.fieldWidth = 32 → field = sample.toNat)) ∧
  ∀ (r : CommandRecord) (c : WatchConfig), r.config = some c → c.test = .range →
    c.mask = 0 ∧ c.value = 0 ∧ c.fieldOffset + c.fieldWidth ≤ 32 ∧ c.low ≤ c.high ∧ c.high < 2 ^ c.fieldWidth

/-- Table 2-1 with R28, R30, R32 and R34: what one sample does to one watch in phases 1 and 2. -/
def Obligations.WatchEvaluation : Prop :=
  ∀ (w : Watch) (p : PresentedSample),
    let t := w.config.testResult p.data
    let occurs : Prop :=
      match w.config.sense with
      | .level => t = true ∧ w.previous ≠ .unknown
      | .enter => t = true ∧ w.previous = .isFalse
      | .leave => t = false ∧ w.previous = .isTrue
    let after : PrevResult := if t = true then .isTrue else .isFalse
    let count := if w.fireCount < 4294967295 then w.fireCount + 1 else w.fireCount
    let first := if w.fireCount = 0 then some p.number else w.firstFire
    (w.state ≠ .live → w.evaluate p = w ∧ w.occurs p.data = false ∧ w.fires p.data = false) ∧
    (w.state = .live →
      (w.occurs p.data = true ↔ occurs) ∧ (w.fires p.data = true ↔ occurs ∧ w.skipRemaining = 0) ∧
      (¬ occurs → w.evaluate p = { w with previous := after }) ∧
      (occurs → 0 < w.skipRemaining →
        w.evaluate p = { w with previous := after, skipRemaining := w.skipRemaining - 1 }) ∧
      (occurs → w.skipRemaining = 0 → w.config.mode = .repeated →
        w.evaluate p =
          { w with
            previous := after, skipRemaining := w.config.skip, fireCount := count, firstFire := first,
            lastFire := some p.number, lastFireTick := p.arrivalTick }) ∧
      (occurs → w.skipRemaining = 0 → w.config.mode = .single →
        w.evaluate p =
          { w with
            previous := after, fireCount := count, firstFire := first, lastFire := some p.number,
            lastFireTick := p.arrivalTick, state := .done, endReason := .fired, windowExpiry := none,
            expiryRaised := false }))

/-- R30: an occurrence with skip remaining above 0 lowers it by 1 and does not fire, one with skip remaining 0 fires, and
every other sample leaves it; so a watch entered with skip remaining equal to skip fires on its (skip + 1)th occurrence,
consecutive or not. Skip remaining is in a snapshot, and makes no difference to the event an EVENT_CHOICE puts in flight. -/
def Obligations.SkipCounting : Prop :=
  (∀ (w : Watch) (p : PresentedSample), w.state = .live →
    (w.occurs p.data = true → 0 < w.skipRemaining →
      w.fires p.data = false ∧ (w.evaluate p).skipRemaining = w.skipRemaining - 1) ∧
    (w.occurs p.data = true → w.skipRemaining = 0 → w.fires p.data = true) ∧
    (w.occurs p.data = false →
      w.fires p.data = false ∧ (w.evaluate p).skipRemaining = w.skipRemaining)) ∧
  (∀ (w : Watch) (ps : List PresentedSample), w.state = .live → w.skipRemaining = w.config.skip → w.fireCount = 0 →
    (w.occurrencesIn ps ≤ w.config.skip →
      (w.afterSamples ps).state = .live ∧ (w.afterSamples ps).fireCount = 0 ∧
      (w.afterSamples ps).skipRemaining + w.occurrencesIn ps = w.config.skip) ∧
    (w.occurrencesIn ps = w.config.skip + 1 → (w.afterSamples ps).fireCount = 1)) ∧
  (∀ (w : Watch) (id : WatchId) (last : Option SampleNo) (tick : Tick),
    (w.snapshot id last tick).skipRemaining = w.skipRemaining) ∧
  ∀ (s t : State) (w : WatchId) (n : Nat), exec .eventChoice s = .next t →
    ∃ u, exec .eventChoice (s.setWatch w { s.watch w with skipRemaining := n }) = .next u ∧ u.evt = t.evt

/-- R24 with R5, R7, R33, R36 to R41, R63 and R70: the evaluation of a presented sample completes, and what it leaves of
every watch, of the Report List and of acquisition. Of the fired watches with capture = yes, in ascending id, the first
are accepted, as many as there are FREE slots and cached buffers for, and the missed capture count of every other is one
more, up to 255. With none accepted the Buffer Cache and the Buffer Fetcher stay as they are, and with no halt taken
either so does the whole Capture Unit; what the others leave there is CaptureRequested. The close then has a held START
check its conditions (R60; `checkStart` is in StartTaken). An evaluation that has begun and not closed changes nothing
yet, and no watch command, window expiry, start-of-run notice or report choice falls inside it (log entry 8). -/
def Obligations.EvaluationTaken : Prop :=
  (∀ (s : State) (p : PresentedSample), s.ctl.device = .enabled → s.eng.presented = some p →
    s.eng.noticeWaiting = false →
    let halting := (List.finRange 64).find? fun w => (s.watch w).fires p.data && (s.watch w).config.halt
    let accepted := min s.freeSlots.length s.cap.cache.length
    ∃ t : State, exec (.sampleEvaluation .whole) s = .next t.checkStart ∧
      t = { s with eng := t.eng, acq := t.acq, cap := t.cap, fetch := t.fetch } ∧
      (s.Evaluated t p fun w =>
        if w ∈ (s.requesters p).drop accepted then oneMoreMissed (s.watch w).missed else (s.watch w).missed) ∧
      t.acq =
        (match halting, s.acq.state with
        | some w, .running =>
          { s.acq with state := .idle, pendingHalt := some { watch := w, sample := p.number } }
        | _, _ => s.acq) ∧
      (s.requesters p = [] ∨ accepted = 0 →
        t.cap.cache = s.cap.cache ∧ t.fetch = s.fetch ∧ (s.haltTaken p = false → t.cap = s.cap))) ∧
  (∀ (s : State) (p : PresentedSample), s.ctl.device = .enabled → s.eng.presented = some p →
    s.eng.noticeWaiting = false →
    exec (.sampleEvaluation .begins) s = .next { s with eng := { s.eng with begun := true } }) ∧
  ∀ (s : State), s.eng.begun = true →
    (exec .load s = .next s ∧ exec .arm s = .next s ∧ exec .disarm s = .next s ∧ exec .free s = .next s ∧
      exec .snapshot s = .next s ∧ exec .startOfRunNotice s = .next s ∧ ∀ w, exec (.windowExpiry w) s = .next s) ∧
    (s.eng.presented ≠ none → ∀ t, exec .eventChoice s = .next t → t.eng = s.eng)

/-- R35, R36, R63, R64, R70, R75, R76 and R84: what the evaluation of a sample leaves of the Capture Unit. The fired watches
with capture = yes, in ascending id, take the FREE slots, lowest first, and the buffers of the cache, head first, one each,
until either runs out; each slot taken is allocated with the window that CaptureWindow gives, and makes the check of R76. A
halt taken then ends the run: every slot, those just allocated among them, takes the end-of-run notice that names this
sample, and the run-end mark is set to it. A slot that is neither taken nor cut stays as it was, and the Buffer Fetcher asks
for a read where the buffers taken make room for one (R100). The check of a held START follows (R60, StartTaken). -/
def Obligations.CaptureRequested : Prop :=
  ∀ (s : State) (p : PresentedSample), s.ctl.device = .enabled → s.eng.presented = some p →
    s.eng.noticeWaiting = false →
    let served := ((s.requesters p).zip s.freeSlots).zip s.cap.cache
    let ends (x y : Slot) : Prop := if s.haltTaken p = true then x.CutAt s.acq.newest p.number y else y = x
    ∃ t : State, exec (.sampleEvaluation .whole) s = .next t.checkStart ∧
      t.cap =
        { s.cap with
          slots := t.cap.slots
          cache := s.cap.cache.drop served.length
          runEndMark := if s.haltTaken p = true then some p.number else s.cap.runEndMark } ∧
      (∀ w i d, ((w, i), d) ∈ served → ∃ x,
        (Slot.allocated s.acq s.cap.runEndMark w p.number (s.watch w).config.pre (s.watch w).config.post d).Checked
          s.acq.newest x ∧ ends x (t.slot i)) ∧
      (∀ i, (∀ r ∈ served, r.1.2 ≠ i) → ends (s.slot i) (t.slot i)) ∧
      t.fetch =
        { s.fetch with
          fetch :=
            if served ≠ [] ∧ s.fetch.fetch = .idle ∧ 0 < s.fetch.available ∧ t.cap.cache.length < 4 ∧
                s.fetch.rejections = [] then .requested
            else s.fetch.fetch }

/-- R43, R44 and R9: once the tick count has reached the window expiry of a LIVE watch, its timer raises an expiry that
waits; taken, a raised expiry ends its watch, EXPIRED for SINGLE and WINDOW_END for REPEAT, fires nothing and reaches no
successor. An expiry is reached while it lies less than 2^47 ticks back (log entry 3), and none is raised outside
ENABLED: R43 says so of FAULTED, and of STOPPING and RESETTING it is the model's choice (log entry 20). -/
def Obligations.WindowTimers : Prop :=
  (∀ (s : State) (w : WatchId),
    let due : Prop := ∃ e, (s.watch w).windowExpiry = some e ∧ (s.tick - e).toNat < 2 ^ 47
    (s.ctl.device = .enabled → (s.watch w).state = .live → due →
      ∃ t, exec (.expiryRaised w) s = .next t ∧ s.WatchReplaced t w { s.watch w with expiryRaised := true } ∧
        t = { s with eng := { s.eng with watches := t.eng.watches } }) ∧
    (¬ (s.ctl.device = .enabled ∧ (s.watch w).state = .live ∧ due) → exec (.expiryRaised w) s = .next s)) ∧
  ∀ (s : State) (w : WatchId),
    (s.ctl.device = .enabled → s.eng.begun = false → (s.watch w).state = .live → (s.watch w).expiryRaised = true →
      ∃ t, exec (.windowExpiry w) s = .next t ∧
        s.WatchReplaced t w
          { s.watch w with
            state := .done, windowExpiry := none, expiryRaised := false,
            endReason := if (s.watch w).config.mode = .single then .expired else .windowEnd } ∧
        t = { s with
              eng :=
                { s.eng with
                  watches := t.eng.watches
                  reportList := if w ∈ s.eng.reportList then s.eng.reportList else s.eng.reportList ++ [w] } }) ∧
    (¬ (s.ctl.device = .enabled ∧ (s.watch w).state = .live ∧ (s.watch w).expiryRaised = true) →
      exec (.windowExpiry w) s = .next s)

/-- R48: the start-of-run notice makes the previous result of every LIVE watch UNKNOWN and changes nothing else; a presented
sample waits behind it (R61, log entry 7). With none waiting, within an evaluation, and outside ENABLED (log entry 22) no
notice is taken. -/
def Obligations.StartOfRunTaken : Prop :=
  (∀ s : State, s.ctl.device = .enabled → s.eng.noticeWaiting = true → s.eng.begun = false →
    (∃ t, exec .startOfRunNotice s = .next t ∧
      (∀ w, t.watch w =
        if (s.watch w).state = .live then { s.watch w with previous := .unknown } else s.watch w) ∧
      t = { s with eng := { s.eng with watches := t.eng.watches, noticeWaiting := false } }) ∧
    ∀ x, exec (.sampleEvaluation x) s = .next s) ∧
  ∀ s : State, ¬ (s.ctl.device = .enabled ∧ s.eng.noticeWaiting = true ∧ s.eng.begun = false) →
    exec .startOfRunNotice s = .next s

/-! ### Acquisition, Timebase and the History Ring (chapter 3) -/

/-- R51: the tick counter rises by 1 on each REFCLK period in every device state and wraps at 2^48, and with no sample
presented nothing else changes (SampleArrivalTaken says what a presented one adds); it stands while RESETN is
asserted, and is set to 0 only by the reset pin and at the entry into DISABLED that ends RESETTING; a response limit is
measured on it while RESETTING; no register shows it. -/
def Obligations.TickCounter : Prop :=
  (∀ s : State, s.resetAsserted = false → ∃ t, exec .refclkTick s = .next t ∧ t.tick = s.tick + 1 ∧
    (s.eng.presented = none → t = { s with tick := s.tick + 1 })) ∧
  (∀ s : State, s.resetAsserted = true → exec .refclkTick s = .next s) ∧
  (∀ (c : Instr) (s t : State), c ≠ .refclkTick → exec c s = .next t →
    t.tick = s.tick ∨
      (t.tick = 0 ∧ t.ctl.device = .disabled ∧ (s.pinActs c ∨ s.ctl.device = .resetting ∨ writesReset c))) ∧
  (∀ (c : Instr) (s t : State), exec c s = .next t → s.pinActs c → t.tick = 0) ∧
  (∀ (c : Instr) (s t : State), exec c s = .next t → t.ctl.device = .disabled → s.resetAsserted = false →
    s.ctl.device = .resetting ∨ writesReset c → t.tick = 0) ∧
  (∀ (s : State) (tag : Tag) (q : Requester) (size : Nat) (e : Tick), s.ctl.device = .resetting →
    s.entry tag = .active q size (some e) → s.tick = e →
    ∃ t, exec (.responseLimitExpiry tag) s = .next t ∧ t.entry tag = .stale size (some e)) ∧
  ∀ (s : State) (x : Tick) (r : WindowRegister), ({ s with tick := x } : State).readRegister r = s.readRegister r

/-- R54, R55, R57, R58 and R187: an accepted edge is numbered, written into the ring, announced and presented; its entry
is then present with its word and the low half of its tick, and every other entry present is as it was; an edge that
fails a condition leaves the part as it was. A sample still outstanding at the 8th REFCLK period since its acceptance is
evaluated whole in it, behind a start-of-run notice that waits, and before then a period only counts (the place within
the 8th period is log entry 19); so while RUNNING an edge 8 or more periods after the one accepted last, by the tick
stamp of that one, is accepted. The word of an edge is the settled one (log entry 18). -/
def Obligations.SampleArrivalTaken : Prop :=
  (∀ (s : State) (word : Word),
    (¬ (s.ctl.device = .enabled ∧ s.acq.state = .running ∧ s.eng.presented = none) →
      exec (.sampleArrival word) s = .next s) ∧
    (s.ctl.device = .enabled → s.acq.state = .running → s.eng.presented = none →
      ∃ t, exec (.sampleArrival word) s = .next t ∧
        t = { s with
              acq :=
                { s.acq with
                  sampleCounter := s.acq.sampleCounter + 1
                  heldCount := if s.acq.heldCount = 2048 then 2048 else s.acq.heldCount + 1
                  ring := t.acq.ring }
              cap := { s.cap with slots := t.cap.slots, runEndMark := none }
              eng :=
                { s.eng with
                  presented :=
                    some { number := s.acq.sampleCounter, data := word, arrivalTick := s.tick } } } ∧
        t.acq.newest = some s.acq.sampleCounter ∧
        (s.acq.heldCount < 2048 → t.acq.floor = s.acq.floor) ∧
        (s.acq.heldCount = 2048 → t.acq.floor = s.acq.floor + 1))) ∧
  (∀ (s t : State) (word : Word), s.RingSound → s.ctl.device = .enabled → s.acq.state = .running →
    s.eng.presented = none → exec (.sampleArrival word) s = .next t →
    t.acq.holds s.acq.sampleCounter = true ∧
    t.acq.entryOf s.acq.sampleCounter = { data := word, tickLow := s.tick.setWidth 32 } ∧
    ∀ k, t.acq.holds k = true → k ≠ s.acq.sampleCounter →
      s.acq.holds k = true ∧ t.acq.entryOf k = s.acq.entryOf k) ∧
  (∀ (s : State) (p : PresentedSample), s.resetAsserted = false → s.ctl.device = .enabled → s.eng.presented = some p →
    (s.eng.begun = true → s.eng.noticeWaiting = false) →
    ((s.tick + 1 - p.arrivalTick).toNat < 8 → exec .refclkTick s = .next { s with tick := s.tick + 1 }) ∧
    (8 ≤ (s.tick + 1 - p.arrivalTick).toNat → ∃ u t,
      (if s.eng.noticeWaiting = true then exec .startOfRunNotice s = .next u else u = s) ∧
      exec (.sampleEvaluation .whole) u = .next t ∧ t.eng.presented = none ∧
      exec .refclkTick s = .next { t with tick := s.tick + 1 })) ∧
  ∀ (s : State) (word : Word), s.RunSound → s.ctl.device = .enabled → s.acq.state = .running →
    (∀ k, s.acq.newest = some k → 8 ≤ (s.tick.setWidth 32 - (s.acq.entryOf k).tickLow).toNat) →
    ∃ t, exec (.sampleArrival word) s = .next t ∧ t.acq.sampleCounter = s.acq.sampleCounter + 1 ∧
      t.eng.presented = some { number := s.acq.sampleCounter, data := word, arrivalTick := s.tick }

/-- R60 and R61: a START that finds acquisition RUNNING answers ALREADY and changes nothing else; one that finds it IDLE
is held, and its conditions are checked in the same event. A check, here and at a close, a slot's exit from FILLING and the
choice of an ACQ_HALT (EvaluationTaken, BurstGranted, BurstAnswered, ChoiceAtSource), takes the START when no sample is
outstanding, no slot is FILLING and no ACQ_HALT is pending: the ring is empty and the floor at the sample counter, the
notice waits (log entry 7), and OK is returned; otherwise it changes nothing. START_TAKEN is that take (log entry 21). -/
def Obligations.StartTaken : Prop :=
  (∀ (s : State) (c : CurrentCommand), s.Dispatched .start c →
    (s.acq.state = .running → exec .start s = .next { s with cmd := s.cmd.completedWith c .already none }) ∧
    (s.acq.state = .idle →
      exec .start s = .next ({ s with acq := { s.acq with heldStart := true } } : State).checkStart)) ∧
  (∀ s : State,
    let ready : Prop :=
      s.ctl.device = .enabled ∧ s.acq.heldStart = true ∧ s.eng.presented = none ∧ (∀ i, (s.slot i).state ≠ .filling) ∧
        s.acq.pendingHalt = none
    let t := s.checkStart
    (¬ ready → t = s) ∧
    (ready →
      t = { s with
            acq := { s.acq with state := .running, heldCount := 0, heldStart := false }
            eng := { s.eng with noticeWaiting := true }
            cmd := t.cmd } ∧
      (∀ c, s.Dispatched .start c → t.cmd = s.cmd.completedWith c .ok none) ∧
      t.acq.newest = none ∧ t.acq.floor = s.acq.sampleCounter ∧ ∀ k, t.acq.holds k = false)) ∧
  ∀ s : State,
    let ready : Prop :=
      s.ctl.device = .enabled ∧ (s.acq.heldStart = true ∨ (s.acq.state = .idle ∧ ∃ c, s.Dispatched .start c)) ∧
        s.eng.presented = none ∧ (∀ i, (s.slot i).state ≠ .filling) ∧ s.acq.pendingHalt = none
    (ready → exec .startTaken s = .next ({ s with acq := { s.acq with heldStart := true } } : State).checkStart) ∧
    (¬ ready → exec .startTaken s = .next s)

/-- R62, R64, R75, R76 and R84: a STOP that finds acquisition IDLE answers ALREADY; one that finds it RUNNING makes it
IDLE, returns OK at once, and gives every slot the end-of-run notice: a FILLING slot whose window end has not arrived is
cut at the newest sample with TRUNCATED and flushes, or closes when nothing is left to copy, and each makes the check of
R76 for a burst; the run-end mark is the newest sample. With no sample in the run the notice leaves the Capture Unit as
it was (log entry 15). -/
def Obligations.StopTaken : Prop :=
  ∀ (s : State) (c : CurrentCommand), s.Dispatched .stop c →
    (s.acq.state = .idle → exec .stop s = .next { s with cmd := s.cmd.completedWith c .already none }) ∧
    (s.acq.state = .running → ∃ t, exec .stop s = .next t ∧
      t = { s with
            acq := { s.acq with state := .idle }
            cap := { s.cap with
                      slots := t.cap.slots
                      runEndMark := if s.acq.heldCount = 0 then s.cap.runEndMark else s.acq.newest }
            cmd := s.cmd.completedWith c .ok none } ∧
      (s.acq.newest = none → t.cap = s.cap) ∧
      ∀ (n : SampleNo) (i : SlotId), s.acq.newest = some n → (s.slot i).CutAt (some n) n (t.slot i))

/-- R57 with R50, R55, R56, R60, R61, R63, R66 and R187, as invariants: the ring never holds more than 2048 entries and
its store keeps its canonical form (the form is the model's own, log entry 2); when acquisition is IDLE; no START stays
held once its conditions hold (R60); and a presented sample is the newest in the ring, its entry its own, and was
accepted less than 8 ticks ago (R187 as the model's choice of log entry 19 closes it, by the tick of the 8th period
before it counts, periods counted as ticks); while its evaluation is begun (log entry 8) no start-of-run notice waits
(log entry 7). -/
def Obligations.AcquisitionStaysSound : Prop :=
  ∀ (c : Instr) (s t : State), s.RingSound → exec c s = .next t → t.RingSound ∧
    (s.RunSound → t.RunSound) ∧ (s.RunSound → s.CommandSound → s.NoStartLeft → t.NoStartLeft)

/-! ### Capture Slots (chapter 4) -/

/-- R70 and R72 to R75: every field of an allocated slot, which CaptureRequested has an evaluation allocate: watch and
trigger from the request, the buffer from the descriptor, nothing copied, asked for or outstanding; and the window, from
the trigger, the pre and post counts, the floor, the capacity and the run-end mark. It is never longer than the buffer
or than 66,560 entries. -/
def Obligations.CaptureWindow : Prop :=
  ∀ (a : Acquisition) (mark : Option SampleNo) (w : WatchId) (k : SampleNo) (pre post : Nat) (d : Descriptor),
    pre ≤ 1024 → post ≤ 65535 → d.Legal →
    let sl := Slot.allocated a mark w k pre post d
    let start := if pre ≤ (k - a.floor).toNat then k - BitVec.ofNat 48 pre else a.floor
    let asked := k + BitVec.ofNat 48 post
    let length := (asked - start).toNat + 1
    let clippedEnd := if d.capacity < length then start + BitVec.ofNat 48 d.capacity - 1 else asked
    (sl.watch = w ∧ sl.trigger = k ∧ sl.buffer = d.address ∧ sl.capacity = d.capacity ∧ sl.bufferTag = d.tag ∧
      sl.leading = 0 ∧ sl.bursts = [] ∧ sl.outstanding = 0 ∧ sl.requestStanding = false) ∧
    sl.state = .filling ∧ sl.windowStart = start ∧ sl.nextToCopy = start ∧ length ≤ 66560 ∧
    (sl.clipped = true ↔ d.capacity < length) ∧
    (mark = none → sl.windowEnd = clippedEnd ∧ sl.flushing = false ∧ sl.status = none ∧
      sl.pos sl.windowEnd + 1 = min length d.capacity) ∧
    (∀ m, mark = some m → (m - start).toNat < (clippedEnd - start).toNat →
      sl.windowEnd = m ∧ sl.flushing = true ∧ sl.status = some .truncated) ∧
    (∀ m, mark = some m → (clippedEnd - start).toNat ≤ (m - start).toNat →
      sl.windowEnd = clippedEnd ∧ sl.flushing = false ∧ sl.status = none) ∧
    sl.pos sl.windowEnd < d.capacity ∧ sl.pos sl.windowEnd < 66560

/-- R82 and R76: at an arrival that overwrites an entry, a FILLING slot that still needed it ends OVERRUN, its request
withdrawn; every other slot makes the check of R76 with the new sample as the newest, by which one that has to ask for a
burst asks, and nothing else of it changes. -/
def Obligations.OverrunByArrival : Prop :=
  ∀ (s t : State) (word : Word) (i : SlotId), s.ctl.device = .enabled → s.acq.state = .running →
    s.eng.presented = none → exec (.sampleArrival word) s = .next t →
    let sl := s.slot i
    let k := s.acq.sampleCounter - 2048
    let needed : Prop :=
      sl.state = .filling ∧ sl.flushing = false ∧ s.acq.heldCount = 2048 ∧ sl.pos k ≤ sl.pos sl.windowEnd ∧
        sl.pos sl.nextToCopy ≤ sl.pos k
    (needed →
      t.slot i =
        { sl with
          state := if sl.outstanding = 0 then .posting else .closing
          requestStanding := false
          status := some (sl.status.getD .overrun) }) ∧
    (¬ needed → sl.Checked (some s.acq.sampleCounter) (t.slot i))

/-- R76, R78, R79, R85 and R149: what a grant to a slot copies and sends: up to 16 entries of its present run, which is the
window samples from next-to-copy up to the lower of window end and newest sample, 16 bytes each, to their own positions in
the buffer; there is at least 1. The slot then closes, when the last entry of its window is granted, or makes the check of
R76 for its next burst; the check of a held START follows (R69, StartTaken). -/
def Obligations.BurstGranted : Prop :=
  ∀ (s : State) (i : SlotId) (tag : Tag), s.ctl.device = .enabled → s.nextRequester = some (.slot i) →
    s.port.freeTag = some tag → (s.slot i).Sound →
    let sl := s.slot i
    let n := min 16 (sl.runTo s.acq.newest)
    let sent : Slot :=
      { sl with
        nextToCopy := sl.nextToCopy + BitVec.ofNat 48 n
        outstanding := sl.outstanding + 1
        bursts := sl.bursts ++ [{ count := n, answer := .waiting, tag := tag }]
        requestStanding := false }
    (s.CopiesSound → 1 ≤ n) ∧
    ∃ (t : State) (data : List Byte), exec .grant s = .next t.checkStart ∧
      t = { s with cap := { s.cap with slots := t.cap.slots }, port := t.port } ∧
      t.port.issued =
        s.port.issued ++
          [{ tag := tag, kind := .write, size := 16 * n, data := data
             address := sl.buffer + BitVec.ofNat 64 (16 * (sl.nextToCopy - sl.windowStart).toNat) }] ∧
      data.length = 16 * n ∧
      (∀ j, j < n →
        let k := sl.nextToCopy + BitVec.ofNat 48 j
        let e := s.acq.entryOf k
        (data.drop (16 * j)).take 16 =
          leBytes 6 k.toNat ++ [if k = sl.trigger then 1 else 0, 0] ++ leBytes 4 e.data.toNat ++
            leBytes 4 e.tickLow.toNat) ∧
      (∀ j, j ≠ i → t.slot j = s.slot j) ∧
      sent.pos sent.nextToCopy ≤ sl.capacity ∧
      (sl.pos sl.nextToCopy + n = sl.pos sl.windowEnd + 1 →
        t.slot i =
          { sent with
            state := .closing, status := some (sl.status.getD (if sl.clipped then .clipped else .complete)) }) ∧
      (sl.pos sl.nextToCopy + n ≤ sl.pos sl.windowEnd → sent.Checked s.acq.newest (t.slot i))

/-- R80, R81, R90, R94 and R95: a burst's answer at its slot, where its record is found by its tag (log entry 4). In
ENABLED an OK marks the burst and counts it once every burst before it is answered OK, and a FILLING slot one of whose
records left the list makes the check of R76; an ERROR stops the leading run, ends FILLING and makes the status
WRITE_ERROR; a slot in CLOSING with no write outstanding enters POSTING; the check of a held START follows (R69,
StartTaken, which has it do nothing outside ENABLED). In FAULTED the record is marked and outstanding writes are one
lower, and nothing else changes; in STOPPING and RESETTING outstanding writes are one lower and nothing else changes,
while another entry is ACTIVE (PassageEnded has the last one). -/
def Obligations.BurstAnswered : Prop :=
  ∀ (s : State) (r : Response) (i : SlotId) (size : Nat) (e : Option Tick), s.entry r.tag = .active (.slot i) size e →
    let sl := s.slot i
    let leaves (x : Slot → Prop) : Prop := ∃ t : State, exec (.burstWriteResponse r) s = .next t.checkStart ∧
      t = { s with cap := { s.cap with slots := t.cap.slots }, port := { s.port with entries := t.port.entries } } ∧
      s.EntryReplaced t r.tag .free ∧ (∀ j, j ≠ i → t.slot j = s.slot j) ∧ x (t.slot i)
    (s.PassageWaits r.tag → leaves fun x => x = { sl with outstanding := sl.outstanding - 1 }) ∧
    ∀ (before after : List BurstRecord) (b : BurstRecord), sl.bursts = before ++ b :: after →
      b.tag = r.tag → b.answer = .waiting → (∀ x ∈ before, ¬ (x.tag = r.tag ∧ x.answer = .waiting)) →
    let marked : List BurstRecord :=
      before ++ { b with answer := if r.answer = .ok then .ok else .error } :: after
    let left := marked.dropWhile (fun x => x.answer == .ok)
    let taken : Slot :=
      { sl with
        outstanding := sl.outstanding - 1
        bursts := left
        leading := sl.leading + burstTotal (marked.takeWhile (fun x => x.answer == .ok)) }
    let closed : SlotState := if sl.outstanding - 1 = 0 then .posting else .closing
    (s.ctl.device = .faulted → leaves fun x => x = { sl with outstanding := sl.outstanding - 1, bursts := marked }) ∧
    (s.ctl.device = .enabled →
      (r.answer = .ok → sl.state = .filling →
        leaves fun x => if left.length < sl.bursts.length then taken.Checked s.acq.newest x else x = taken) ∧
      (r.answer = .ok → sl.state = .closing → leaves fun x => x = { taken with state := closed }) ∧
      (r.answer = .error → sl.state = .filling →
        leaves fun x => x = { taken with state := closed, status := some .writeError, requestStanding := false }) ∧
      (r.answer = .error → sl.state = .closing →
        leaves fun x => x = { taken with state := closed, status := some .writeError }))

/-- R86: a CANCEL with no non-FREE target answers NOT_ACTIVE; any other closes its FILLING targets with ABORTED and waits,
with its status fixed. -/
def Obligations.CancelTaken : Prop :=
  ∀ (s : State) (c : CurrentCommand) (named : List SlotId), s.Dispatched .cancel c →
    slotsOf c.record.slot = some named → s.cap.cancelling = none →
    let target (i : SlotId) : Prop := i ∈ named ∧ (s.slot i).state ≠ .free
    ((∀ i, ¬ target i) →
      exec .cancel s = .next { s with cmd := s.cmd.completedWith c .notActive (some c.record.slot) }) ∧
    ((∃ i, target i) → ∃ t p, exec .cancel s = .next t ∧
      t = { s with cap := { s.cap with slots := t.cap.slots, cancelling := some p } } ∧
      (∀ i, i ∈ p.targets ↔ target i) ∧
      p.status = (if ∃ i, target i ∧ (s.slot i).state = .filling then .ok else .already) ∧
      (∀ i, target i → (s.slot i).state = .filling →
        t.slot i =
          { s.slot i with
            state := if (s.slot i).outstanding = 0 then .posting else .closing
            requestStanding := false
            status := some ((s.slot i).status.getD .aborted) }) ∧
      ∀ i, ¬ (target i ∧ (s.slot i).state = .filling) → t.slot i = s.slot i)

/-- R90: a CAPTURE_DONE is chosen only when no burst of its slot waits for an answer: no ACTIVE entry is the slot's. -/
def Obligations.CaptureDoneAfterAnswers : Prop :=
  ∀ (s t : State) (f : InFlight) (d : CaptureDone), s.CapturesSound → s.RequestsOwned →
    exec .eventChoice s = .next t → s.evt.inFlight = none → t.evt.inFlight = some f → f.content = .captureDone d →
    (s.slot d.slot).state = .posting ∧ ∀ tag size e, s.entry tag ≠ .active (.slot d.slot) size e

/-- Chapters 4 and 5, as invariants: every Capture Slot stays sound, its window inside its buffer and its entries at
their own positions; the Buffer Cache holds at most 4 descriptors, legal ones only, and the Rejection List at most 4; a
batch in flight always has room, and nothing is fetched while a rejection waits. And, for a part whose ring, run and
slots are sound: what a slot has still to copy stays in the ring; no slot that has to ask for a burst fails to, and none
asks with nothing to send (R76). -/
def Obligations.CaptureUnitStaysSound : Prop :=
  ∀ (c : Instr) (s t : State), exec c s = .next t →
    (s.CapturesSound → t.CapturesSound) ∧ (s.SupplySound → t.SupplySound) ∧
    (s.RingSound → s.RunSound → s.CapturesSound → s.CopiesSound → t.CopiesSound)

/-! ### Buffer Supply (chapter 5) -/

/-- R103: the checks of a descriptor, in their order; its tag is not looked at, its reserved byte is ignored, and what else
the part holds makes no difference. -/
def Obligations.DescriptorChecks : Prop :=
  (∀ d : Descriptor,
    (d.reject = some .zeroCapacity ↔ d.capacity = 0) ∧
    (d.reject = some .overCapacity ↔ 1048576 < d.capacity) ∧
    (d.reject = some .misaligned ↔ 1 ≤ d.capacity ∧ d.capacity ≤ 1048576 ∧ d.address.toNat % 64 ≠ 0) ∧
    (d.reject = none ↔ 1 ≤ d.capacity ∧ d.capacity ≤ 1048576 ∧ d.address.toNat % 64 = 0)) ∧
  (∀ (d : Descriptor) (x : Word), ({ d with tag := x } : Descriptor).reject = d.reject) ∧
  ∀ (x y : ReadData) (i : Nat),
    (∀ j, j < 128 → ¬ (88 ≤ j ∧ j < 96) → x.getLsbD (128 * i + j) = y.getLsbD (128 * i + j)) →
    descriptorAt x i = descriptorAt y i

/-- R102, R103, R106 and R107: the response to the BQ read. On OK the descriptors of the batch join the Buffer Cache or
the Rejection List, each list in BQ order, and the head moves past the batch; on ERROR nothing is taken and the part is
FAULTED with BQ_READ. In FAULTED, and in STOPPING and RESETTING while another entry is ACTIVE (PassageEnded has the last
one), the answer, OK or ERROR, is absorbed: only the read is over. -/
def Obligations.BqReadAnswered : Prop :=
  (∀ (s : State) (r : Response) (size : Nat) (e : Option Tick) (b : Batch), s.ctl.device = .enabled →
    s.entry r.tag = .active .fetcher size e → s.fetch.batch = some b →
    let batch := (List.range b.length).map fun i => (b.first + i, descriptorAt r.data i)
    let good := (batch.filter fun x => x.2.reject == none).map fun x => x.2
    let bad := batch.filterMap fun x => x.2.reject.map fun why =>
      ({ tag := x.2.tag, reason := why, bqIndex := x.1 } : Rejection)
    let head := (s.fetch.head + b.length) % s.fetch.size
    (r.answer = .ok → ∃ t, exec (.bqReadResponse r) s = .next t ∧ s.EntryReplaced t r.tag .free ∧
      t = { s with
            cap := { s.cap with cache := s.cap.cache ++ good }
            fetch :=
              { s.fetch with
                head := head
                rejections := s.fetch.rejections ++ bad
                batch := none
                fetch :=
                  if 0 < ringDistance s.fetch.size head s.fetch.tail ∧ s.cap.cache.length + good.length < 4 ∧
                      s.fetch.rejections ++ bad = [] then .requested
                  else .idle }
            port := { s.port with entries := t.port.entries } }) ∧
    (r.answer = .error → ∃ t, exec (.bqReadResponse r) s = .next t ∧ s.EntryReplaced t r.tag .free ∧
      t.ctl.device = .faulted ∧ t.ctl.faultCode = .bqRead ∧ t.cap.cache = s.cap.cache ∧
      t.fetch = { s.fetch with fetch := .idle, batch := none })) ∧
  ∀ (s : State) (r : Response) (size : Nat) (e : Option Tick), s.entry r.tag = .active .fetcher size e →
    s.ctl.device = .faulted ∨ s.PassageWaits r.tag →
    ∃ t, exec (.bqReadResponse r) s = .next t ∧ s.EntryReplaced t r.tag .free ∧
      t = { s with fetch := { s.fetch with fetch := .idle, batch := none }, port := { s.port with entries := t.port.entries } }

/-! ### Event Queue and Interrupt (chapter 6) -/

/-- R110, R111 and R112: a choice is made only in ENABLED, with no event in flight, with room in the EQ, and with an
item offered; then the item of the first source in rank becomes the event in flight, with the EQ tail, the lap parity
and the tick of that moment, and its write is asked for (log entry 16). -/
def Obligations.ChoiceByRank : Prop :=
  (∀ s : State,
    ¬ (s.ctl.device = .enabled ∧ s.evt.inFlight = none ∧ s.evt.fill < s.evt.size - 1) ∨
      ((∀ i, (s.slot i).state ≠ .posting) ∧ s.acq.pendingHalt = none ∧ s.cmd.held = none ∧ s.fetch.rejections = [] ∧
        (s.eng.reportList = [] ∨ s.eng.begun = true)) →
    exec .eventChoice s = .next s) ∧
  ∀ s : State, s.ctl.device = .enabled → s.evt.inFlight = none → s.evt.fill < s.evt.size - 1 →
    (∀ i, (s.slot i).state = .posting → (s.slot i).status ≠ none) →
    let chosen (x : EventContent) : Prop := ∃ t, exec .eventChoice s = .next t ∧
      t.evt =
        { s.evt with
          inFlight := some { index := s.evt.tail, phase := s.evt.lapParity, eventTick := s.tick, content := x }
          request := .standing }
    (∀ (i : SlotId) (st : CaptureStatus), (s.slot i).state = .posting → (s.slot i).status = some st →
      (∀ j, j < i → (s.slot j).state ≠ .posting) →
      chosen (.captureDone
        { slot := i, watch := (s.slot i).watch, bufferTag := (s.slot i).bufferTag, status := st,
          trigger := (s.slot i).trigger, firstSample := (s.slot i).windowStart, entryCount := (s.slot i).leading })) ∧
    ((∀ i, (s.slot i).state ≠ .posting) →
      (∀ h, s.acq.pendingHalt = some h → chosen (.acqHalt h)) ∧
      (s.acq.pendingHalt = none →
        (∀ d, s.cmd.held = some d → chosen (.cmdDone d)) ∧
        (s.cmd.held = none →
          (∀ r rest, s.fetch.rejections = r :: rest → chosen (.bufferReject r)) ∧
          (s.fetch.rejections = [] →
            ∀ w rest, s.eng.reportList = w :: rest → s.eng.begun = false →
              chosen (.watchReport
                { watch := w
                  final := decide ((s.watch w).state = .done)
                  endReason := if (s.watch w).state = .done then (s.watch w).endReason else .none
                  fireCount := (s.watch w).fireCount, firstFire := (s.watch w).firstFire
                  lastFire := (s.watch w).lastFire, lastFireTick := (s.watch w).lastFireTick
                  missed := (s.watch w).missed })))))

/-- R91 and R87: at the choice of a CAPTURE_DONE its slot becomes FREE and leaves the target set of a CANCEL in progress,
whose status is returned when no target is left; no other slot and no other source changes. -/
def Obligations.CaptureDoneChosen : Prop :=
  ∀ (s t : State) (f : InFlight) (d : CaptureDone), s.evt.inFlight = none → exec .eventChoice s = .next t →
    t.evt.inFlight = some f → f.content = .captureDone d →
    t = { s with cap := t.cap, cmd := t.cmd, evt := t.evt } ∧
    s.SlotReplaced t d.slot .freeSlot ∧ t.cap.cache = s.cap.cache ∧ t.cap.runEndMark = s.cap.runEndMark ∧
    (s.cap.cancelling = none → t.cap.cancelling = none ∧ t.cmd = s.cmd) ∧
    ∀ p, s.cap.cancelling = some p →
      let left := p.targets.filter fun i => i ≠ d.slot
      (left = [] → p.targets ≠ [] → t.cap.cancelling = none ∧
        ∀ c, s.cmd.current = some c → kindOf c.record.kind = some .cancel →
          t.cmd = s.cmd.completedWith c p.status (some c.record.slot)) ∧
      (left ≠ [] → t.cap.cancelling = some { p with targets := left } ∧ t.cmd = s.cmd)

/-- R65, R113, R105 and R19: at the choice of an ACQ_HALT, a CMD_DONE, a BUFFER_REJECT or a WATCH_REPORT its item leaves
its source and nothing else of the part changes, but that a held START checks its conditions at the choice of an
ACQ_HALT, and is taken in it (R60, StartTaken), and a Buffer Fetcher whose last rejection is chosen may ask for a read.
A report's watch has its unreported fields cleared, and a DONE watch becomes IDLE. -/
def Obligations.ChoiceAtSource : Prop :=
  (∀ (s t : State) (f : InFlight), s.evt.inFlight = none → exec .eventChoice s = .next t → t.evt.inFlight = some f →
    (∀ h, f.content = .acqHalt h →
      s.acq.pendingHalt = some h ∧
        t = ({ s with acq := { s.acq with pendingHalt := none }, evt := t.evt } : State).checkStart) ∧
    (∀ d, f.content = .cmdDone d →
      s.cmd.held = some d ∧ t = { s with cmd := { s.cmd with held := none }, evt := t.evt }) ∧
    ∀ r, f.content = .bufferReject r → ∃ rest, s.fetch.rejections = r :: rest ∧
      t = { s with
            fetch :=
              { s.fetch with
                rejections := rest
                fetch :=
                  if s.fetch.fetch = .idle ∧ 0 < s.fetch.available ∧ s.cap.cache.length < 4 ∧ rest = [] then .requested
                  else s.fetch.fetch }
            evt := t.evt }) ∧
  ∀ (s t : State) (f : InFlight) (r : WatchReport), s.evt.inFlight = none → exec .eventChoice s = .next t →
    t.evt.inFlight = some f → f.content = .watchReport r →
    let w := r.watch
    let x := s.watch w
    (∃ rest, s.eng.reportList = w :: rest ∧
      t = { s with eng := { s.eng with watches := t.eng.watches, reportList := rest }, evt := t.evt }) ∧
    s.WatchReplaced t w
      { x with
        fireCount := 0, firstFire := none, lastFire := none, lastFireTick := 0, missed := 0
        state := if x.state = .done then .idle else x.state
        endReason := if x.state = .done then .none else x.endReason }

/-- R116, R117, R123, R130, R131 and R145: an EQ write answered OK advances the tail and, at index 0, changes the lap
parity; the event is counted, and EVENTS is set at the threshold or the holdoff timer starts; a CMD_DONE answered OK
makes the Command Unit IDLE, and it may ask for the next record. Answered ERROR it leaves the tail and counts nothing:
it is EQ_WRITE, which makes an ENABLED part FAULTED and sets MULTI in a FAULTED one. In FAULTED an OK advances the tail,
and is not counted. In STOPPING and RESETTING while another entry is ACTIVE (PassageEnded has the last one), the answer,
OK or ERROR, is absorbed: only the event in flight and its write are over. The write is the request of log entry 16. -/
def Obligations.EqWriteAnswered : Prop :=
  (∀ (s : State) (r : Response) (size : Nat) (e : Option Tick), s.ctl.device = .enabled →
    s.entry r.tag = .active .writer size e → r.answer = .ok →
    let tail := (s.evt.tail + 1) % s.evt.size
    let n := s.evt.moderation + 1
    ∃ t, exec (.eqWriteResponse r) s = .next t ∧ s.EntryReplaced t r.tag .free ∧
      t = { s with cmd := t.cmd, evt := t.evt, port := { s.port with entries := t.port.entries } } ∧
      t.evt =
        { s.evt with
          tail := tail
          lapParity := if tail = 0 then !s.evt.lapParity else s.evt.lapParity
          inFlight := none
          request := .none
          moderation := if s.evt.threshold ≤ n then 0 else n
          holdoffTimer :=
            if s.evt.threshold ≤ n then none
            else if s.evt.holdoffTimer = none ∧ 0 < s.evt.holdoff then some (s.tick + BitVec.ofNat 48 s.evt.holdoff)
            else s.evt.holdoffTimer
          interrupt :=
            { s.evt.interrupt with events := s.evt.interrupt.events || decide (s.evt.threshold ≤ n) } } ∧
      (s.evt.carriesCmdDone = false → t.cmd = s.cmd) ∧
      (s.evt.carriesCmdDone = true → s.cmd.state = .posting →
        t.cmd =
          if 0 < s.cmd.available then { s.cmd with state := .fetching, link := .standing }
          else { s.cmd with state := .idle })) ∧
  (∀ (s : State) (r : Response) (size : Nat) (e : Option Tick), s.entry r.tag = .active .writer size e →
    ∃ t, exec (.eqWriteResponse r) s = .next t ∧
      (s.ctl.device = .enabled → r.answer = .error →
        t.ctl.device = .faulted ∧ t.ctl.faultCode = .eqWrite ∧ t.ctl.multi = false ∧ t.evt.tail = s.evt.tail ∧
        t.evt.lapParity = s.evt.lapParity ∧ t.evt.inFlight = none ∧ t.evt.moderation = s.evt.moderation ∧
        t.evt.interrupt = { s.evt.interrupt with fault := true }) ∧
      (s.ctl.device = .faulted → s.EntryReplaced t r.tag .free ∧
        (r.answer = .error →
          t = { s with
                ctl := { s.ctl with multi := true }
                evt :=
                  { s.evt with
                    inFlight := none, request := .none, interrupt := { s.evt.interrupt with fault := true } }
                port := { s.port with entries := t.port.entries } }) ∧
        (r.answer = .ok →
          t = { s with
                evt :=
                  { s.evt with
                    inFlight := none, request := .none, tail := (s.evt.tail + 1) % s.evt.size
                    lapParity :=
                      if (s.evt.tail + 1) % s.evt.size = 0 then !s.evt.lapParity else s.evt.lapParity }
                port := { s.port with entries := t.port.entries } }))) ∧
  ∀ (s : State) (r : Response) (size : Nat) (e : Option Tick), s.entry r.tag = .active .writer size e →
    s.PassageWaits r.tag →
    ∃ t, exec (.eqWriteResponse r) s = .next t ∧ s.EntryReplaced t r.tag .free ∧
      t = { s with evt := { s.evt with inFlight := none, request := .none }, port := { s.port with entries := t.port.entries } }

/-- R119: the judgement of an EQ_HEAD write in ENABLED, and that it is ignored in every other state. -/
def Obligations.EqHeadWritten : Prop :=
  ∀ (s : State) (v : Word), s.resetAsserted = false →
    let d := ringDistance s.evt.size v.toNat s.evt.tail
    (s.ctl.device ≠ .enabled → exec (.eqHeadWrite v) s = .next s) ∧
    (s.ctl.device = .enabled →
      (s.evt.size ≤ v.toNat ∨ s.evt.fill < d → ∃ t, exec (.eqHeadWrite v) s = .next t ∧
        t.ctl.device = .faulted ∧ t.ctl.faultCode = .eqHeadRange ∧ t.evt.head = s.evt.head ∧
        t.evt.interrupt.fault = true) ∧
      (v.toNat < s.evt.size → d ≤ s.evt.fill → ∃ t,
        exec (.eqHeadWrite v) s = .next t ∧ t = { s with evt := { s.evt with head := v.toNat } } ∧ t.evt.fill = d))

/-- R120: the OK response to the write in flight advances the tail by 1 and raises the fill by 1. An EQ_HEAD write that
is valid before that response, as the old tail is, is valid after it, and the two end the same in either order; a value
equal to the new tail is EQ_HEAD_RANGE before the response, and releases every record after it. -/
def Obligations.HeadWriteMeetsResponse : Prop :=
  ∀ (s : State) (r : Response) (v : Word) (size : Nat) (e : Option Tick), s.resetAsserted = false →
    s.ctl.device = .enabled → s.entry r.tag = .active .writer size e → r.answer = .ok → s.EventSlotReleased →
    s.evt.inFlight ≠ none →
    (∃ b, exec (.eqWriteResponse r) s = .next b ∧ b.evt.tail = (s.evt.tail + 1) % s.evt.size ∧
      b.evt.fill = s.evt.fill + 1) ∧
    (s.evt.tail < s.evt.size ∧ ringDistance s.evt.size s.evt.tail s.evt.tail ≤ s.evt.fill) ∧
    (v.toNat < s.evt.size → ringDistance s.evt.size v.toNat s.evt.tail ≤ s.evt.fill →
      ∃ a b t, exec (.eqHeadWrite v) s = .next a ∧ exec (.eqWriteResponse r) a = .next t ∧
        exec (.eqWriteResponse r) s = .next b ∧ exec (.eqHeadWrite v) b = .next t ∧ t.ctl.device = .enabled) ∧
    (v.toNat = (s.evt.tail + 1) % s.evt.size →
      (∃ a, exec (.eqHeadWrite v) s = .next a ∧ a.ctl.device = .faulted ∧ a.ctl.faultCode = .eqHeadRange) ∧
      ∃ b t, exec (.eqWriteResponse r) s = .next b ∧ exec (.eqHeadWrite v) b = .next t ∧ t.ctl.device = .enabled ∧
        t.evt.head = v.toNat ∧ t.evt.fill = 0)

/-- R124: when the tick count reaches the expiry of a RUNNING holdoff timer, EVENTS is set and the count becomes 0 if it is
above 0, as it is in every sound state, and the timer becomes IDLE in every case; on leaving ENABLED the timer is stopped
without an expiry. An expiry is reached while it lies less than 2^47 ticks back (log entry 3). -/
def Obligations.HoldoffExpiryTaken : Prop :=
  (∀ (c : Instr) (s t : State), s.ctl.device = .enabled → exec c s = .next t →
    t.ctl.device = .faulted ∨ t.ctl.device = .stopping ∨ t.ctl.device = .resetting →
    t.evt.holdoffTimer = none ∧ t.evt.interrupt.events = s.evt.interrupt.events) ∧
  ∀ s : State,
    let due : Prop := ∃ e, s.evt.holdoffTimer = some e ∧ (s.tick - e).toNat < 2 ^ 47
    (s.ctl.device = .enabled → due → s.ModerationSound → 0 < s.evt.moderation) ∧
    (s.ctl.device = .enabled → due →
      exec .holdoffExpiry s =
        .next
          { s with
            evt :=
              { s.evt with
                holdoffTimer := none
                moderation := 0
                interrupt :=
                  { s.evt.interrupt with events := if 0 < s.evt.moderation then true else s.evt.interrupt.events } } }) ∧
    (¬ (s.ctl.device = .enabled ∧ due) → exec .holdoffExpiry s = .next s)

/-- R126: a write to INTERRUPT is taken in every device state; it clears each status bit written as 1, keeps each written as
0, and sets both masks to the values written; a read returns the four bits; and what they hold changes nothing else that
any command does. EVENTS is set in ENABLED only, where moderation begins its count anew (R123, R124), and FAULT only where
the part ends FAULTED (R128). -/
def Obligations.InterruptWritten : Prop :=
  (∀ s : State, s.resetAsserted = false →
    let x := s.readRegister .interrupt
    x.getLsbD 0 = s.evt.interrupt.events ∧ x.getLsbD 1 = s.evt.interrupt.fault ∧
    x.getLsbD 8 = s.evt.interrupt.eventsMask ∧ x.getLsbD 9 = s.evt.interrupt.faultMask ∧
    ∀ i, i ≠ 0 → i ≠ 1 → i ≠ 8 → i ≠ 9 → x.getLsbD i = false) ∧
  (∀ (c : Instr) (s t : State) (x : Interrupt), exec c s = .next t → ∃ y : Interrupt,
    exec c { s with evt := { s.evt with interrupt := x } } = .next { t with evt := { t.evt with interrupt := y } }) ∧
  (∀ (c : Instr) (s t : State), exec c s = .next t →
    (s.evt.interrupt.events = false → t.evt.interrupt.events = true →
      s.ctl.device = .enabled ∧ t.evt.moderation = 0 ∧ t.evt.holdoffTimer = none) ∧
    (s.evt.interrupt.fault = false → t.evt.interrupt.fault = true → t.ctl.device = .faulted)) ∧
  ∀ (s : State) (v : Word), s.resetAsserted = false →
    exec (.interruptWrite v) s =
      .next
        { s with
          evt :=
            { s.evt with
              interrupt :=
                { events := if v.getLsbD 0 then false else s.evt.interrupt.events
                  fault := if v.getLsbD 1 then false else s.evt.interrupt.fault
                  eventsMask := v.getLsbD 8
                  faultMask := v.getLsbD 9 } } }

/-- R129: INTN is low exactly while EVENTS and its mask are both set or FAULT and its mask are both set, at every moment,
and high while RESETN is asserted and after power-on reset. A mask write moves it in the same event, and leaves both status
bits. -/
def Obligations.IntnLevel : Prop :=
  (∀ s : State, s.resetAsserted = false →
    (s.intnHigh = false ↔
      (s.evt.interrupt.events = true ∧ s.evt.interrupt.eventsMask = true) ∨
        (s.evt.interrupt.fault = true ∧ s.evt.interrupt.faultMask = true))) ∧
  (∀ s : State, s.resetAsserted = true → s.intnHigh = true) ∧
  (∀ (s t : State) (v : Word), s.resetAsserted = false → v.getLsbD 0 = false → v.getLsbD 1 = false →
    exec (.interruptWrite v) s = .next t →
    t.evt.interrupt.events = s.evt.interrupt.events ∧ t.evt.interrupt.fault = s.evt.interrupt.fault ∧
    (t.intnHigh = false ↔
      (s.evt.interrupt.events = true ∧ v.getLsbD 8 = true) ∨ (s.evt.interrupt.fault = true ∧ v.getLsbD 9 = true))) ∧
  (∀ (c : Instr) (s t : State), exec c s = .next t → s.pinActs c → t.intnHigh = true) ∧
  State.reset.intnHigh = true

/-- R118 and Conventions, Ring indices, as an invariant: head and tail of each ring stay below its size; and the event in
flight goes into an EQ slot the host has released, at the tail and with the lap parity as its phase. -/
def Obligations.RingIndicesStaySound : Prop :=
  ∀ (c : Instr) (s t : State), exec c s = .next t →
    (s.IndicesInRange → t.IndicesInRange) ∧ (s.EventSlotReleased → t.EventSlotReleased)

/-! ### Commands (chapter 7) -/

/-- R134 and R98: the judgement of a CQ_TAIL and of a BQ_TAIL write in ENABLED, and that they are ignored in every other
state. A taken value may let the Command Unit (R136) or the Buffer Fetcher (R100) ask for a read. -/
def Obligations.TailsWritten : Prop :=
  (∀ (s : State) (v : Word), s.resetAsserted = false →
    let d := ringDistance s.cmd.size s.cmd.head v.toNat
    (s.ctl.device ≠ .enabled → exec (.cqTailWrite v) s = .next s) ∧
    (s.ctl.device = .enabled →
      (s.cmd.size ≤ v.toNat ∨ d < s.cmd.available → ∃ t, exec (.cqTailWrite v) s = .next t ∧
        t.ctl.device = .faulted ∧ t.ctl.faultCode = .cqTailRange ∧ t.cmd.tail = s.cmd.tail ∧
        t.evt.interrupt.fault = true) ∧
      (v.toNat < s.cmd.size → d = s.cmd.available → exec (.cqTailWrite v) s = .next s) ∧
      (v.toNat < s.cmd.size → s.cmd.available < d →
        exec (.cqTailWrite v) s =
          .next
            { s with
              cmd :=
                if s.cmd.state = .idle then { s.cmd with tail := v.toNat, state := .fetching, link := .standing }
                else { s.cmd with tail := v.toNat } }))) ∧
  ∀ (s : State) (v : Word), s.resetAsserted = false →
    let d := ringDistance s.fetch.size s.fetch.head v.toNat
    (s.ctl.device ≠ .enabled → exec (.bqTailWrite v) s = .next s) ∧
    (s.ctl.device = .enabled →
      (s.fetch.size ≤ v.toNat ∨ d < s.fetch.available → ∃ t, exec (.bqTailWrite v) s = .next t ∧
        t.ctl.device = .faulted ∧ t.ctl.faultCode = .bqTailRange ∧ t.fetch.tail = s.fetch.tail ∧
        t.evt.interrupt.fault = true) ∧
      (v.toNat < s.fetch.size → d = s.fetch.available → exec (.bqTailWrite v) s = .next s) ∧
      (v.toNat < s.fetch.size → s.fetch.available < d →
        exec (.bqTailWrite v) s =
          .next
            { s with
              fetch :=
                { s.fetch with
                  tail := v.toNat
                  fetch :=
                    if s.fetch.fetch = .idle ∧ s.cap.cache.length < 4 ∧ s.fetch.rejections = [] then .requested
                    else s.fetch.fetch } }))

/-- R137, R138, R141, R142, R146 and R147: the response to the CQ read. On OK the record is taken, the head moves, and
the common checks are made in their order: the first that fails, or NOP, completes the command at once, and any other is
dispatched. On ERROR nothing is taken and the part is FAULTED with CQ_READ, and the Command Unit holds no completion.
In FAULTED, and in STOPPING and RESETTING while another entry is ACTIVE (PassageEnded has the last one), the answer, OK
or ERROR, is absorbed: only the read is over. The row NOP is the OK response that brings a NOP record (log entry 10). -/
def Obligations.CqReadAnswered : Prop :=
  (∀ (s : State) (r : Response) (size : Nat) (e : Option Tick), s.ctl.device = .enabled →
    s.entry r.tag = .active .command size e → s.cmd.state = .fetching →
    let cr := commandRecordOf r.data
    let head := (s.cmd.head + 1) % s.cmd.size
    let cur : CurrentCommand := { record := cr, headAfter := head }
    let kind := fun b : Byte => cr.kind = b
    let watchKind : Prop := kind 0x02 ∨ kind 0x03 ∨ kind 0x04 ∨ kind 0x05 ∨ kind 0x06
    let taken (u : CommandUnit) : Prop := ∃ t, exec (.cqReadResponse r) s = .next t ∧ s.EntryReplaced t r.tag .free ∧
      t = { s with cmd := u, port := { s.port with entries := t.port.entries } }
    let completed (st : CmdStatus) (detail : Option Byte) : Prop :=
      taken ({ s.cmd with head := head, link := .none }.completedWith cur st detail)
    (r.answer = .ok →
      (cr.kind = 0x00 ∨ 0x09 < cr.kind.toNat → completed .badKind none) ∧
      (watchKind → 64 ≤ cr.watchId.toNat → completed .badWatch (some cr.watchId)) ∧
      (kind 0x09 → 4 ≤ cr.slot.toNat → cr.slot ≠ 0xFF → completed .badSlot (some cr.slot)) ∧
      (kind 0x06 → cr.watchId.toNat < 64 → cr.snapshotAddress.toNat % 64 ≠ 0 →
        completed .badField (some cr.watchId)) ∧
      (kind 0x01 → completed .ok none) ∧
      ((watchKind ∧ cr.watchId.toNat < 64 ∧ (kind 0x06 → cr.snapshotAddress.toNat % 64 = 0)) ∨
          (kind 0x07 ∨ kind 0x08) ∨ (kind 0x09 ∧ (cr.slot.toNat < 4 ∨ cr.slot = 0xFF)) →
        taken { s.cmd with head := head, link := .none, current := some cur, state := .executing })) ∧
    (r.answer = .error → ∃ t, exec (.cqReadResponse r) s = .next t ∧ s.EntryReplaced t r.tag .free ∧
      t.ctl.device = .faulted ∧ t.ctl.faultCode = .cqRead ∧ t.cmd.head = s.cmd.head ∧ t.cmd.current = none ∧
      t.cmd.held = none ∧ t.cmd.state = .idle)) ∧
  (∀ (s : State) (tag : Tag) (record : ReadData) (size : Nat) (e : Option Tick), WellFormed (.nop tag record) = true →
    s.ctl.device = .enabled → s.entry tag = .active .command size e → s.cmd.state = .fetching → s.cmd.current = none →
    ∃ t, exec (.nop tag record) s = .next t ∧ s.EntryReplaced t tag .free ∧
      t = { s with
            cmd :=
              { s.cmd with
                head := (s.cmd.head + 1) % s.cmd.size
                link := .none
                state := .posting
                held :=
                  some
                    { tag := record.extractLsb' 16 16, kind := 0x01, status := .ok,
                      headAfter := (s.cmd.head + 1) % s.cmd.size, detail := none } }
            port := { s.port with entries := t.port.entries } }) ∧
  ∀ (s : State) (r : Response) (size : Nat) (e : Option Tick), s.entry r.tag = .active .command size e →
    s.ctl.device = .faulted ∨ s.PassageWaits r.tag →
    ∃ t, exec (.cqReadResponse r) s = .next t ∧ (r.answer = .ok → exec (.nop r.tag r.data) s = .next t) ∧
      s.EntryReplaced t r.tag .free ∧
      t = { s with cmd := { s.cmd with link := .none }, port := { s.port with entries := t.port.entries } }

/-- R143, R146 and R147: the response to the snapshot write completes the SNAPSHOT, OK or WRITE_ERROR, and is no fault.
In FAULTED, and in STOPPING and RESETTING while another entry is ACTIVE (PassageEnded has the last one), the answer, OK
or ERROR, is absorbed: only the write is over. -/
def Obligations.SnapshotWriteAnswered : Prop :=
  (∀ (s : State) (r : Response) (c : CurrentCommand) (size : Nat) (e : Option Tick), s.Dispatched .snapshot c →
    s.entry r.tag = .active .command size e →
    ∃ t, exec (.snapshotWriteResponse r) s = .next t ∧ s.EntryReplaced t r.tag .free ∧
      t = { s with
            cmd :=
              { s.cmd with snapshot := none, link := .none }.completedWith c
                (if r.answer = Answer.ok then CmdStatus.ok else CmdStatus.writeError) (some c.record.watchId)
            port := { s.port with entries := t.port.entries } }) ∧
  ∀ (s : State) (r : Response) (size : Nat) (e : Option Tick), s.entry r.tag = .active .command size e →
    s.ctl.device = .faulted ∨ s.PassageWaits r.tag →
    ∃ t, exec (.snapshotWriteResponse r) s = .next t ∧ s.EntryReplaced t r.tag .free ∧
      t = { s with cmd := { s.cmd with link := .none }, port := { s.port with entries := t.port.entries } }

/-- Chapters 7 and 8, as one invariant: every ACTIVE entry belongs to the requester that waits for it, each wait held at
its block, and an event is in flight exactly while the Event Writer has a request (log entry 16); and the Command Unit
has at most one command between its take and its written completion, and outside ENABLED no command and no held
completion (R146), a completion kept frozen (R130) only once the part has left ENABLED. That these two are fields of their
own is log entry 17. -/
def Obligations.RequestsStayOwned : Prop :=
  ∀ (c : Instr) (s t : State), s.CapturesSound → s.RequestsOwned → s.CommandSound → exec c s = .next t →
    t.RequestsOwned ∧ t.CommandSound

/-! ### Memory Port (chapter 8) -/

/-- R151 and R152: a GRANT goes to the first eligible requester behind the grant pointer, takes the lowest FREE tag, moves
the pointer, fixes the expiry and issues one request; when no requester is eligible, no entry is FREE or the part is neither
STARTING nor ENABLED, nothing changes. -/
def Obligations.GrantMade : Prop :=
  ∀ s : State,
    (¬ (s.ctl.device = .starting ∨ s.ctl.device = .enabled) ∨ (∀ q, ¬ s.Eligible q) ∨ (∀ tag, s.entry tag ≠ .free) →
      exec .grant s = .next s) ∧
    ∀ (q : Requester) (tag : Tag), s.ctl.device = .starting ∨ s.ctl.device = .enabled → s.Eligible q →
      (∀ p, s.Eligible p → s.port.grantPointer.distanceFrom q ≤ s.port.grantPointer.distanceFrom p) →
      s.entry tag = .free → (∀ u, u < tag → s.entry u ≠ .free) →
      s.nextRequester = some q ∧ s.port.freeTag = some tag ∧
      ∃ t req, exec .grant s = .next t ∧ req = s.formRequest tag q ∧ req.tag = tag ∧
        t.port.grantPointer = q ∧ t.port.limitInForce = s.port.limitInForce ∧ t.port.issued = s.port.issued ++ [req] ∧
        s.EntryReplaced t tag
          (.active q req.size
            (if s.port.limitInForce = 0 then none else some (s.tick + BitVec.ofNat 48 s.port.limitInForce))) ∧
        t.port.activeCount q = s.port.activeCount q + 1 ∧
        (∀ p, p ≠ q → t.port.activeCount p = s.port.activeCount p ∧ t.standing p = s.standing p)

/-- R149, R137, R143, R101 and R115: the requests that the Control Unit, the Command Unit, the Buffer Fetcher and the Event
Writer form at their grants, and what the grant changes there. A slot's is in BurstGranted. -/
def Obligations.RequestsFormed : Prop :=
  ∀ (s : State) (tag : Tag), s.ctl.device = .starting ∨ s.ctl.device = .enabled → s.port.freeTag = some tag →
    let granted (q : Requester) (req : LinkRequest) (u : State) : Prop := s.nextRequester = some q →
      ∃ t, exec .grant s = .next t ∧ t.port.issued = s.port.issued ++ [req] ∧ t = { u with port := t.port }
    let n := min s.fetch.available (min (4 - s.cap.cache.length) (s.fetch.size - s.fetch.head))
    granted .control
      { tag := tag, kind := .read, address := s.ctl.setupAddress, size := 64, data := [] }
      { s with ctl := { s.ctl with setupRequest := .outstanding } } ∧
    (s.cmd.snapshot = none →
      granted .command
        { tag := tag, kind := .read, address := s.cmd.base + BitVec.ofNat 64 (64 * s.cmd.head), size := 64, data := [] }
        { s with cmd := { s.cmd with link := .outstanding } }) ∧
    (∀ content c, s.cmd.snapshot = some content → s.cmd.current = some c →
      content.recordBytes.length = 64 ∧
      granted .command
        { tag := tag, kind := .write, address := c.record.snapshotAddress, size := 64, data := content.recordBytes }
        { s with cmd := { s.cmd with link := .outstanding } }) ∧
    granted .fetcher
      { tag := tag, kind := .read, address := s.fetch.base + BitVec.ofNat 64 (16 * s.fetch.head), size := 16 * n,
        data := [] }
      { s with fetch := { s.fetch with fetch := .reading, batch := some { first := s.fetch.head, length := n } } } ∧
    ∀ f, s.evt.inFlight = some f →
      f.recordBytes.length = 32 ∧
      granted .writer
        { tag := tag, kind := .write, address := s.evt.base + BitVec.ofNat 64 (32 * f.index), size := 32,
          data := f.recordBytes }
        { s with evt := { s.evt with request := .outstanding } }

/-- R155, R157 and R158: a response whose tag names a STALE entry is late: it frees the entry, and no block takes it;
one whose tag names a FREE entry changes nothing; which row of the table it was sent as makes no difference (log entry
10). The expiry of an ACTIVE entry leaves exactly what an ERROR response leaves, but that the entry is STALE and its tag
stays out of use; the late response then changes nothing but the entry. Before the tick count reaches the expiry, and at
an entry with none, nothing happens. An expiry is reached while it lies less than 2^47 ticks back (log entry 3). -/
def Obligations.EntryEnded : Prop :=
  (∀ (s : State) (r : Response),
    (∀ size e, s.entry r.tag = .stale size e →
      ∃ t, exec (.lateResponse r) s = .next t ∧ s.EntryReplaced t r.tag .free ∧
        t = { s with port := { s.port with entries := t.port.entries } }) ∧
    (s.entry r.tag = .free → exec (.lateResponse r) s = .next s) ∧
    exec (.cqReadResponse r) s = exec (.lateResponse r) s ∧ exec (.bqReadResponse r) s = exec (.lateResponse r) s ∧
    exec (.setupReadResponse r) s = exec (.lateResponse r) s ∧
    exec (.snapshotWriteResponse r) s = exec (.lateResponse r) s ∧
    exec (.burstWriteResponse r) s = exec (.lateResponse r) s ∧ exec (.eqWriteResponse r) s = exec (.lateResponse r) s) ∧
  ∀ (s : State) (tag : Tag),
    (∀ q size e, s.entry tag = .active q size (some e) → (s.tick - e).toNat < 2 ^ 47 →
      ∃ t u, exec (.responseLimitExpiry tag) s = .next t ∧
        exec (.lateResponse { tag := tag, answer := .error, data := 0 }) s = .next u ∧
        t.entry tag = .stale size (some e) ∧ u.entry tag = .free ∧
        t = { u with port := { u.port with entries := t.port.entries } } ∧
        ∀ d, exec (.lateResponse { tag := tag, answer := .ok, data := d }) t = .next u) ∧
    ((∀ q size e, s.entry tag = .active q size (some e) → 2 ^ 47 ≤ (s.tick - e).toNat) →
      exec (.responseLimitExpiry tag) s = .next s)

/-- R152, R155, R157, R159 and R161, as a property of the whole part: only a GRANT issues a request on the Host Link, one at
a time, and nothing but the reset pin forgets one; and every other command leaves every Request Table entry as it is, but
the one whose response or expiry it takes. -/
def Obligations.OnlyGrantsIssue : Prop :=
  ∀ (c : Instr) (s t : State), exec c s = .next t → ¬ s.pinActs c →
    (t.port.issued = s.port.issued ∨
      (c = .grant ∧ ∃ req, t.port.issued = s.port.issued ++ [req] ∧ s.entry req.tag = .free)) ∧
    (c ≠ .grant → s.EntriesKept t c)

/-! ### Device Control, Setup and Faults (chapter 9) -/

/-- R169, R170, R171 and R172 with Table 10-1: the response to the Setup Block read in STARTING. A block whose nine
values are legal is handed to every block at the entry into ENABLED; an illegal one is SETUP_INVALID, and an ERROR is
SETUP_READ. What the entry clears is log entry 15. In STOPPING and RESETTING while another entry is ACTIVE (PassageEnded
has the last one), the answer, OK or ERROR, is absorbed: only the read is over. -/
def Obligations.SetupReadAnswered : Prop :=
  (∀ (s : State) (r : Response) (size : Nat) (e : Option Tick), s.ctl.device = .starting →
    s.entry r.tag = .active .control size e →
    let d := r.data
    let b : Setup :=
      { cqBase := d.extractLsb' 0 64, bqBase := d.extractLsb' 64 64, eqBase := d.extractLsb' 128 64
        cqSizeCode := (d.extractLsb' 192 8).toNat, bqSizeCode := (d.extractLsb' 200 8).toNat
        eqSizeCode := (d.extractLsb' 208 8).toNat, threshold := (d.extractLsb' 224 16).toNat
        holdoff := (d.extractLsb' 256 32).toNat, responseLimit := (d.extractLsb' 288 32).toNat }
    let legal : Prop :=
      b.cqBase.toNat % 64 = 0 ∧ b.bqBase.toNat % 64 = 0 ∧ b.eqBase.toNat % 64 = 0 ∧
      (4 ≤ b.cqSizeCode ∧ b.cqSizeCode ≤ 12) ∧ (4 ≤ b.bqSizeCode ∧ b.bqSizeCode ≤ 12) ∧
      (5 ≤ b.eqSizeCode ∧ b.eqSizeCode ≤ 13) ∧ (1 ≤ b.threshold ∧ b.threshold ≤ 255) ∧
      b.holdoff ≤ 16777215 ∧ b.responseLimit ≤ 16777215
    let fails (code : FaultCode) : Prop := ∃ t, exec (.setupReadResponse r) s = .next t ∧
      s.EntryReplaced t r.tag .free ∧
      t.ctl = { s.ctl with device := .faulted, setupRequest := .none, faultCode := code, multi := false } ∧
      t.evt.interrupt = { s.evt.interrupt with fault := true }
    (r.answer = .error → fails .setupRead) ∧ (r.answer = .ok → ¬ legal → fails .setupInvalid) ∧
    (r.answer = .ok → legal → ∃ t, exec (.setupReadResponse r) s = .next t ∧ s.EntryReplaced t r.tag .free ∧
      t = { s with
            ctl := { s.ctl with device := .enabled, setupRequest := .none, checkedSetup := some b }
            cmd :=
              { s.cmd with
                base := b.cqBase, sizeCode := b.cqSizeCode, head := 0, tail := 0, state := .idle, link := .none,
                current := none, snapshot := none, held := none }
            fetch :=
              { s.fetch with
                base := b.bqBase, sizeCode := b.bqSizeCode, head := 0, tail := 0, fetch := .idle, batch := none }
            evt :=
              { s.evt with
                base := b.eqBase, sizeCode := b.eqSizeCode, threshold := b.threshold, holdoff := b.holdoff, tail := 0,
                head := 0, lapParity := true, inFlight := none, moderation := 0, holdoffTimer := none }
            acq := { s.acq with state := .idle, sampleCounter := 0, heldCount := 0, pendingHalt := none }
            eng := .cleared
            port := { s.port with entries := t.port.entries, limitInForce := b.responseLimit } })) ∧
  ∀ (s : State) (r : Response) (size : Nat) (e : Option Tick), s.entry r.tag = .active .control size e →
    s.PassageWaits r.tag →
    ∃ t, exec (.setupReadResponse r) s = .next t ∧ s.EntryReplaced t r.tag .free ∧
      t = { s with ctl := { s.ctl with setupRequest := .none }, port := { s.port with entries := t.port.entries } }

/-- R164 with R168, R173 and R174: what a CONTROL write enters, by the values written and the device state; ENABLE and
RESET as they read. The three rows of the table are one write (log entry 14). At the entry into STOPPING or RESETTING
every block withdraws its request and drops its work, and a presented sample is closed as R50 gives; with no entry
ACTIVE the passage ends in the same event. Three things there are the model's choice: the completion held until then is
kept in a field of its own while the Command Unit's becomes absent (R131 and R147, log entry 17), the Event Writer's
request is a state of its own (log entry 16), and a start-of-run notice that waits goes on waiting (log entry 22). -/
def Obligations.ControlWritten : Prop :=
  ∀ (s : State) (v : Word), s.resetAsserted = false →
    let leaves (d : DeviceState) : Prop := ∃ t, exec (.softReset v) s = .next t ∧
      (s.port.someActive = false → t.ctl.device = .disabled ∧ t.ctl.enable = false) ∧
      (s.port.someActive = true →
        (∀ i, t.slot i = { s.slot i with requestStanding := false }) ∧
        s.SampleClosed t ∧
        t = { s with
              ctl :=
                { s.ctl with
                  device := d
                  enable := false
                  setupRequest := if s.ctl.setupRequest = .outstanding then .outstanding else .none }
              acq := { s.acq with state := .idle, heldStart := false }
              eng := t.eng
              cap := { s.cap with slots := t.cap.slots, cancelling := none }
              fetch := { s.fetch with fetch := if s.fetch.fetch = .reading then .reading else .idle }
              cmd :=
                { s.cmd with
                  state := .idle
                  link := if s.cmd.link = .outstanding then .outstanding else .none
                  current := none
                  snapshot := none
                  held := none }
              evt :=
                { s.evt with
                  inFlight := if s.evt.request = .outstanding then s.evt.inFlight else none
                  request := if s.evt.request = .outstanding then .outstanding else .none
                  holdoffTimer := none
                  keptCompletion := s.cmd.held.or s.evt.keptCompletion } })
    (exec (.enable v) s = exec (.softReset v) s ∧ exec (.disable v) s = exec (.softReset v) s) ∧
    s.readRegister .control = (if s.ctl.enable then 1 else 0) ∧
    (v.getLsbD 1 = true → s.ctl.device ≠ .resetting → leaves .resetting) ∧
    (v.getLsbD 1 = true → s.ctl.device = .resetting → exec (.softReset v) s = .next s) ∧
    (v.getLsbD 1 = false → v.getLsbD 0 = true →
      (s.ctl.device = .disabled →
        exec (.softReset v) s =
          .next
            { s with
              ctl :=
                { s.ctl with
                  device := .starting, enable := true, faultCode := .none, multi := false, checkedSetup := none,
                  setupRequest := .standing }
              port := { s.port with limitInForce := 16777215 } }) ∧
      (s.ctl.device ≠ .disabled → exec (.softReset v) s = .next s)) ∧
    (v.getLsbD 1 = false → v.getLsbD 0 = false →
      (s.ctl.device = .starting ∨ s.ctl.device = .enabled ∨ s.ctl.device = .faulted → leaves .stopping) ∧
      (s.ctl.device = .disabled ∨ s.ctl.device = .stopping ∨ s.ctl.device = .resetting →
        exec (.softReset v) s = .next s))

/-- R179 with R6, R66, R96, R108, R132, R148 and R162: the values at the entry into DISABLED that ends a disable or a soft
reset, whatever command ends it; STALE entries stay STALE. The fields among these values that the model adds are those of
log entries 7 (waiting notice), 8 (begun evaluation), 16 (the Event Writer's request) and 17 (completion kept). -/
def Obligations.PassageEnded : Prop :=
  ∀ (c : Instr) (s t : State), s.resetAsserted = false → exec c s = .next t → t.ctl.device = .disabled →
    ¬ s.pinActs c → s.ctl.device ≠ .disabled ∨ writesReset c →
    let soft : Prop := s.ctl.device = .resetting ∨ writesReset c
    (t.ctl.enable = false ∧ t.ctl.setupRequest = .none) ∧
    (soft →
      t.ctl.setupAddress = 0 ∧ t.ctl.checkedSetup = none ∧ t.ctl.faultCode = .none ∧ t.ctl.multi = false ∧ t.tick = 0 ∧
      t.evt.interrupt = { events := false, fault := false, eventsMask := false, faultMask := false }) ∧
    (¬ soft →
      t.ctl.setupAddress = s.ctl.setupAddress ∧ t.ctl.checkedSetup = s.ctl.checkedSetup ∧
      t.ctl.faultCode = s.ctl.faultCode ∧ t.ctl.multi = s.ctl.multi ∧ t.tick = s.tick ∧
      t.evt.interrupt = { s.evt.interrupt with events := false }) ∧
    (t.acq.state = .idle ∧ t.acq.sampleCounter = 0 ∧ t.acq.heldCount = 0 ∧ t.acq.pendingHalt = none ∧
      t.acq.heldStart = false) ∧
    ((∀ w, t.watch w = .freeContext) ∧ t.eng.reportList = [] ∧ t.eng.lastEvaluated = none ∧ t.eng.presented = none ∧
      t.eng.begun = false ∧ t.eng.noticeWaiting = false) ∧
    ((∀ i, t.slot i = .freeSlot) ∧ t.cap.cache = [] ∧ t.cap.runEndMark = none ∧ t.cap.cancelling = none) ∧
    (t.fetch.head = 0 ∧ t.fetch.tail = 0 ∧ t.fetch.fetch = .idle ∧ t.fetch.batch = none ∧ t.fetch.rejections = []) ∧
    (t.cmd.head = 0 ∧ t.cmd.tail = 0 ∧ t.cmd.state = .idle ∧ t.cmd.link = .none ∧ t.cmd.current = none ∧
      t.cmd.snapshot = none ∧ t.cmd.held = none) ∧
    (t.evt.tail = 0 ∧ t.evt.head = 0 ∧ t.evt.lapParity = true ∧ t.evt.inFlight = none ∧ t.evt.request = .none ∧
      t.evt.moderation = 0 ∧ t.evt.holdoffTimer = none ∧ t.evt.keptCompletion = none) ∧
    (t.port.grantPointer = .slot 3 ∧ t.port.limitInForce = s.port.limitInForce ∧ (∀ tag, (t.entry tag).isActive = false) ∧
      (∀ tag size e, s.entry tag = .stale size e → t.entry tag = .stale size e) ∧
      ∀ tag size e, t.entry tag = .stale size e →
        s.entry tag = .stale size e ∨ ∃ q, s.entry tag = .active q size e)

/-- R163, R164, R165, R166 and R183 with Table 10-13: what a read of each register returns, bit by bit and with the
numbers of the table; that a write is ignored in every device state but those that take it, ENABLED for CQ_TAIL, BQ_TAIL
and EQ_HEAD, DISABLED for SETUP_LO and SETUP_HI, none for STATUS; and what a taken write of SETUP_LO, whose six lowest
bits are discarded, or SETUP_HI leaves (TailsWritten, EqHeadWritten, ControlWritten and InterruptWritten have the other
taken writes). While RESETN is asserted every read returns 0 and every write is ignored (R178). -/
def Obligations.RegisterWindow : Prop :=
  (∀ s : State, s.resetAsserted = false →
    s.readRegister .setupLo = s.ctl.setupAddress.extractLsb' 0 32 ∧
    s.readRegister .setupHi = s.ctl.setupAddress.extractLsb' 32 32 ∧
    (∀ i, (s.readRegister .control).getLsbD i = (decide (i = 0) && s.ctl.enable)) ∧
    ((s.readRegister .status).extractLsb' 0 8).toNat =
      (match s.ctl.device with
      | .disabled => 0
      | .starting => 1
      | .enabled => 2
      | .faulted => 3
      | .stopping => 4
      | .resetting => 5) ∧
    ((s.readRegister .status).extractLsb' 8 4).toNat =
      (match s.ctl.faultCode with
      | .none => 0
      | .setupRead => 1
      | .setupInvalid => 2
      | .cqRead => 3
      | .bqRead => 4
      | .eqWrite => 5
      | .cqTailRange => 6
      | .bqTailRange => 7
      | .eqHeadRange => 8) ∧
    (s.readRegister .status).getLsbD 12 = s.ctl.multi ∧
    (s.readRegister .status).getLsbD 16 = decide (s.acq.state = .running) ∧
    (∀ i, (13 ≤ i ∧ i ≠ 16) → (s.readRegister .status).getLsbD i = false) ∧
    s.readRegister .cqTail = BitVec.ofNat 32 s.cmd.tail ∧ s.readRegister .bqTail = BitVec.ofNat 32 s.fetch.tail ∧
    s.readRegister .eqHead = BitVec.ofNat 32 s.evt.head ∧
    ∀ i, (s.readRegister .interrupt).getLsbD i =
      (if i = 0 then s.evt.interrupt.events
      else if i = 1 then s.evt.interrupt.fault
      else if i = 8 then s.evt.interrupt.eventsMask
      else if i = 9 then s.evt.interrupt.faultMask
      else false)) ∧
  (∀ (s : State) (r : WindowRegister), s.resetAsserted = true → s.readRegister r = 0) ∧
  (∀ (s : State) (v : Word), s.resetAsserted = true →
    (∀ r, exec (.registerWrite r v) s = .next s) ∧ exec (.enable v) s = .next s ∧ exec (.disable v) s = .next s ∧
    exec (.softReset v) s = .next s ∧ exec (.cqTailWrite v) s = .next s ∧ exec (.bqTailWrite v) s = .next s ∧
    exec (.eqHeadWrite v) s = .next s ∧ exec (.interruptWrite v) s = .next s) ∧
  ∀ (s : State) (v : Word),
    exec (.registerWrite .status v) s = .next s ∧
    (s.ctl.device ≠ .enabled →
      exec (.cqTailWrite v) s = .next s ∧ exec (.bqTailWrite v) s = .next s ∧ exec (.eqHeadWrite v) s = .next s) ∧
    (s.ctl.device ≠ .disabled →
      exec (.registerWrite .setupLo v) s = .next s ∧ exec (.registerWrite .setupHi v) s = .next s) ∧
    (s.ctl.device = .disabled → s.resetAsserted = false →
      ∃ lo hi : Addr,
        exec (.registerWrite .setupLo v) s = .next { s with ctl := { s.ctl with setupAddress := lo } } ∧
        exec (.registerWrite .setupHi v) s = .next { s with ctl := { s.ctl with setupAddress := hi } } ∧
        (∀ i, lo.getLsbD i =
          if i < 6 then false else if i < 32 then v.getLsbD i else s.ctl.setupAddress.getLsbD i) ∧
        ∀ i, hi.getLsbD i = if i < 32 then s.ctl.setupAddress.getLsbD i else v.getLsbD (i - 32))

/-- R175 and R176 with Table 9-3: FAULTED is entered from STARTING or ENABLED only, with a code; every block stops,
withdraws a standing request and keeps its tables, lists, slots, rings and indices (R66, R93, R107, R130, R160), and
every source of the Event Writer keeps its item: the held completion as the item kept, while the Command Unit's becomes
absent (R130 and R146, log entry 17; the Event Writer's request is that of log entry 16), and a presented sample is
closed or, once its evaluation has begun, completed (R50). A start-of-run notice that waits goes on waiting (log entry
22). While FAULTED all of that is frozen whatever comes: only where an ACTIVE entry of a block ends does that block
change, as R94, R107, R130 and R146 let it, and only a CONTROL write or the reset pin leaves the state. At the entry and
in the state every Request Table entry stays as it is, but the one whose response or expiry the command takes (R159). -/
def Obligations.FaultedFreezes : Prop :=
  (∀ (c : Instr) (s t : State), exec c s = .next t → s.ctl.device ≠ .faulted → t.ctl.device = .faulted →
    (s.ctl.device = .starting ∨ s.ctl.device = .enabled) ∧ t.ctl.faultCode ≠ .none ∧
    t = { s with
          ctl :=
            { s.ctl with
              device := .faulted, faultCode := t.ctl.faultCode, multi := false, setupRequest := t.ctl.setupRequest }
          acq := { s.acq with state := .idle, heldStart := false }
          eng := t.eng
          cap := { s.cap with slots := t.cap.slots, cancelling := none }
          fetch := { s.fetch with fetch := t.fetch.fetch, batch := t.fetch.batch }
          cmd := { s.cmd with state := .idle, link := t.cmd.link, current := none, snapshot := none, held := none }
          evt :=
            { s.evt with
              inFlight := t.evt.inFlight, request := t.evt.request, holdoffTimer := none
              keptCompletion := s.cmd.held.or s.evt.keptCompletion
              interrupt := { s.evt.interrupt with fault := true } }
          port := { s.port with entries := t.port.entries } } ∧
    s.SampleClosed t ∧ s.EntriesKept t c ∧ (∀ i, t.slot i = { s.slot i with requestStanding := false }) ∧
    (t.ctl.setupRequest = (if s.ctl.setupRequest = .outstanding then .outstanding else .none) ∨
      (s.EndedFor t .control ∧ t.ctl.setupRequest = .none)) ∧
    (t.cmd.link = (if s.cmd.link = .outstanding then .outstanding else .none) ∨
      (s.EndedFor t .command ∧ t.cmd.link = .none)) ∧
    (t.fetch = { s.fetch with fetch := if s.fetch.fetch = .reading then .reading else .idle } ∨
      (s.EndedFor t .fetcher ∧ t.fetch = { s.fetch with fetch := .idle, batch := none })) ∧
    ((t.evt.request = (if s.evt.request = .outstanding then .outstanding else .none) ∧
        t.evt.inFlight = if s.evt.request = .outstanding then s.evt.inFlight else none) ∨
      (s.EndedFor t .writer ∧ t.evt.request = .none ∧ t.evt.inFlight = none))) ∧
  ∀ (c : Instr) (s t : State), exec c s = .next t → s.ctl.device = .faulted → controlValue c = none → ¬ s.pinActs c →
    t = { s with
          tick := t.tick
          ctl := { s.ctl with setupRequest := t.ctl.setupRequest, multi := t.ctl.multi }
          cap := { s.cap with slots := t.cap.slots }
          fetch := t.fetch
          cmd := { s.cmd with link := t.cmd.link }
          evt :=
            { s.evt with
              tail := t.evt.tail, lapParity := t.evt.lapParity, inFlight := t.evt.inFlight, request := t.evt.request
              interrupt := t.evt.interrupt }
          port := { s.port with entries := t.port.entries } } ∧
    s.EntriesKept t c ∧ (t.ctl.multi = s.ctl.multi ∨ (s.EndedFor t .writer ∧ t.ctl.multi = true)) ∧
    (t.ctl.setupRequest = s.ctl.setupRequest ∨ (s.EndedFor t .control ∧ t.ctl.setupRequest = .none)) ∧
    (t.fetch = s.fetch ∨ (s.EndedFor t .fetcher ∧ t.fetch = { s.fetch with fetch := .idle, batch := none })) ∧
    (t.cmd.link = s.cmd.link ∨ (s.EndedFor t .command ∧ t.cmd.link = .none)) ∧
    (({ t.evt with interrupt := s.evt.interrupt } : EventWriter) = s.evt ∨
      (s.EndedFor t .writer ∧ t.evt.request = .none ∧ t.evt.inFlight = none ∧
        ((t.evt.tail = s.evt.tail ∧ t.evt.lapParity = s.evt.lapParity) ∨
          (t.evt.tail = (s.evt.tail + 1) % s.evt.size ∧
            t.evt.lapParity = if t.evt.tail = 0 then !s.evt.lapParity else s.evt.lapParity)))) ∧
    ∀ i, t.slot i = s.slot i ∨
      ∃ tag size e, s.entry tag = .active (.slot i) size e ∧ (t.entry tag).isActive = false ∧
        t.slot i = { s.slot i with outstanding := (s.slot i).outstanding - 1, bursts := (t.slot i).bursts } ∧
        let unanswered (b : BurstRecord) : BurstRecord := if b.tag = tag then { b with answer := .waiting } else b
        (t.slot i).bursts.map unanswered = (s.slot i).bursts.map unanswered

/-- Table 9-2 with R175: the device state changes along the rows of the table only, each by its own cause: a CONTROL
write, the reset pin, or the response or expiry of an ACTIVE entry; and FAULTED is entered with the code of its cause,
the ended entry of the requester the code names or the write out of range. -/
def Obligations.DeviceStateChanges : Prop :=
  ∀ (c : Instr) (s t : State), exec c s = .next t → t.ctl.device ≠ s.ctl.device →
    (s.pinActs c ∧ t.ctl.device = .disabled) ∨
    (writesReset c ∧ (t.ctl.device = .resetting ∨ t.ctl.device = .disabled)) ∨
    (s.ctl.device = .disabled ∧ t.ctl.device = .starting ∧ ∃ v, controlValue c = some v ∧ v.getLsbD 0 = true) ∨
    (s.ctl.device = .starting ∧ t.ctl.device = .enabled ∧ s.EndedFor t .control) ∨
    (s.ctl.device = .starting ∧ t.ctl.device = .faulted ∧ s.EndedFor t .control ∧
      (t.ctl.faultCode = .setupRead ∨ t.ctl.faultCode = .setupInvalid)) ∨
    (s.ctl.device = .enabled ∧ t.ctl.device = .faulted ∧
      ((s.EndedFor t .command ∧ t.ctl.faultCode = .cqRead) ∨ (s.EndedFor t .fetcher ∧ t.ctl.faultCode = .bqRead) ∨
        (s.EndedFor t .writer ∧ t.ctl.faultCode = .eqWrite) ∨
        (∃ v, c = .cqTailWrite v ∧ t.ctl.faultCode = .cqTailRange) ∨
        (∃ v, c = .bqTailWrite v ∧ t.ctl.faultCode = .bqTailRange) ∨
        ∃ v, c = .eqHeadWrite v ∧ t.ctl.faultCode = .eqHeadRange)) ∨
    ((s.ctl.device = .starting ∨ s.ctl.device = .enabled ∨ s.ctl.device = .faulted) ∧
      (t.ctl.device = .stopping ∨ t.ctl.device = .disabled) ∧ ∃ v, controlValue c = some v ∧ v.getLsbD 0 = false) ∨
    ((s.ctl.device = .stopping ∨ s.ctl.device = .resetting) ∧ t.ctl.device = .disabled ∧
      (∃ q, s.EndedFor t q) ∧ t.port.someActive = false)

/-- R178 and R187: a low level on RESETN of 16 or more REFCLK periods is an assertion, from any state; the part is held at
its power-on values, which no command but the release changes, and at the release it is DISABLED with them. The bases, size
codes, threshold and holdoff among these values are the model's choice (log entry 1). A shorter low level, and a release
that ends no assertion, change nothing. -/
def Obligations.ResetPin : Prop :=
  (∀ (s : State) (n : Nat),
    (16 ≤ n →
      exec (.resetPinAsserted n) s = .next { State.reset with pending := s.pending, resetAsserted := true }) ∧
    (n < 16 → exec (.resetPinAsserted n) s = .next s)) ∧
  (∀ s : State,
    (s.resetAsserted = true → exec .resetPinReleased s = .next { State.reset with pending := s.pending }) ∧
    (s.resetAsserted = false → exec .resetPinReleased s = .next s)) ∧
  ∀ (c : Instr) (q : List Instr), c ≠ .resetPinReleased →
    exec c { State.reset with pending := q, resetAsserted := true } =
      .next { State.reset with pending := q, resetAsserted := true }

/-- R179 with R6, R66, R96, R108, R132, R148 and R162: the values after power-on reset, and that every invariant stated
here holds there. The fields among these values that the model adds are those of log entries 7 (waiting notice), 8 (begun
evaluation), 16 (the Event Writer's request) and 17 (completion kept). -/
def Obligations.ResetIsSound : Prop :=
  (State.reset.WatchesSound ∧ State.reset.ReportsExact ∧ State.reset.ChainsSound ∧ State.reset.RingSound ∧
    State.reset.RunSound ∧ State.reset.CapturesSound ∧ State.reset.CopiesSound ∧ State.reset.SupplySound ∧
    State.reset.IndicesInRange ∧ State.reset.EventSlotReleased ∧ State.reset.ModerationSound ∧ State.reset.SetupSound ∧
    State.reset.RequestsOwned ∧ State.reset.CommandSound ∧ State.reset.NoStartLeft) ∧
  let t := State.reset
  (∀ r, t.readRegister r = 0) ∧ t.intnHigh = true ∧ t.resetAsserted = false ∧ t.tick = 0 ∧
  (t.ctl.device = .disabled ∧ t.ctl.enable = false ∧ t.ctl.setupAddress = 0 ∧ t.ctl.setupRequest = .none ∧
    t.ctl.checkedSetup = none ∧ t.ctl.faultCode = .none ∧ t.ctl.multi = false) ∧
  (t.acq.state = .idle ∧ t.acq.sampleCounter = 0 ∧ t.acq.heldCount = 0 ∧ t.acq.pendingHalt = none ∧
    t.acq.heldStart = false) ∧
  ((∀ w, t.watch w = .freeContext) ∧ t.eng.reportList = [] ∧ t.eng.lastEvaluated = none ∧ t.eng.presented = none ∧
    t.eng.begun = false ∧ t.eng.noticeWaiting = false) ∧
  ((∀ i, t.slot i = .freeSlot) ∧ t.cap.cache = [] ∧ t.cap.runEndMark = none ∧ t.cap.cancelling = none) ∧
  (t.fetch.head = 0 ∧ t.fetch.tail = 0 ∧ t.fetch.fetch = .idle ∧ t.fetch.batch = none ∧ t.fetch.rejections = []) ∧
  (t.cmd.head = 0 ∧ t.cmd.tail = 0 ∧ t.cmd.state = .idle ∧ t.cmd.link = .none ∧ t.cmd.current = none ∧
    t.cmd.snapshot = none ∧ t.cmd.held = none) ∧
  (t.evt.tail = 0 ∧ t.evt.head = 0 ∧ t.evt.lapParity = true ∧ t.evt.inFlight = none ∧ t.evt.request = .none ∧
    t.evt.moderation = 0 ∧ t.evt.holdoffTimer = none ∧ t.evt.keptCompletion = none ∧
    t.evt.interrupt = { events := false, fault := false, eventsMask := false, faultMask := false }) ∧
  (∀ tag, t.entry tag = .free) ∧ t.port.grantPointer = .slot 3 ∧ t.port.limitInForce = 16777215

/-- R109, R133, R97, R156 and R172, and R123 and R124, as invariants: in ENABLED every block holds its part of a checked and
legal setup; the moderation count stays below the threshold, and the holdoff timer runs only while an event is counted. -/
def Obligations.SetupStaysSound : Prop :=
  ∀ (c : Instr) (s t : State), exec c s = .next t →
    (s.SetupSound → t.SetupSound) ∧ (s.ModerationSound → t.ModerationSound)

/-! ### Record formats (chapter 10) -/

/-- R180, R182 and Tables 10-3 and 10-5 to 10-12: the fields of every record the part writes, event records, capture entries
and watch snapshots, read back from their bytes at the offsets the tables give, with the numbers R182 gives the statuses,
reasons, states and results; an absent value is written as 0. -/
def Obligations.RecordFields : Prop :=
  let cmdStatus : CmdStatus → Nat := fun x =>
    match x with
    | .ok => 0
    | .badKind => 1
    | .badWatch => 2
    | .badSlot => 3
    | .wrongState => 4
    | .badField => 5
    | .noPredecessor => 6
    | .chainLoop => 7
    | .hasSuccessor => 8
    | .already => 9
    | .notActive => 10
    | .writeError => 11
  let captureStatus : CaptureStatus → Nat := fun x =>
    match x with
    | .complete => 0
    | .clipped => 1
    | .truncated => 2
    | .overrun => 3
    | .aborted => 4
    | .writeError => 5
  let rejectReason : RejectReason → Nat := fun x =>
    match x with
    | .zeroCapacity => 1
    | .overCapacity => 2
    | .misaligned => 3
  let endReason : EndReason → Nat := fun x =>
    match x with
    | .none => 0
    | .fired => 1
    | .expired => 2
    | .windowEnd => 3
    | .disarmed => 4
  let watchState : WatchState → Nat := fun x =>
    match x with
    | .free => 0
    | .idle => 1
    | .pending => 2
    | .live => 3
    | .done => 4
  let previous : PrevResult → Nat := fun x =>
    match x with
    | .unknown => 0
    | .isFalse => 1
    | .isTrue => 2
  (∀ f : InFlight,
    let v := fieldOf f.recordBytes
    f.recordBytes.length = 32 ∧ v 0x02 6 = f.eventTick.toNat ∧ v 0x00 1 / 128 = (if f.phase then 1 else 0) ∧
    (∀ d, f.content = .cmdDone d → d.headAfter < 2 ^ 16 →
      v 0x00 1 % 128 = 1 ∧ v 0x01 1 = cmdStatus d.status ∧ v 0x08 2 = d.tag.toNat ∧ v 0x0A 1 = d.kind.toNat ∧
      v 0x0B 1 = (d.detail.getD 0).toNat ∧ v 0x0C 1 = (if d.detail.isSome then 1 else 0) ∧ v 0x0D 1 = 0 ∧
      v 0x0E 2 = d.headAfter ∧ v 0x10 16 = 0) ∧
    (∀ r, f.content = .watchReport r → r.missed ≤ 255 → r.fireCount < 2 ^ 32 →
      v 0x00 1 % 128 = 2 ∧ v 0x01 1 = r.watch.val ∧ v 0x08 1 = endReason r.endReason + (if r.final then 128 else 0) ∧
      v 0x09 1 = r.missed ∧ v 0x0A 4 = r.fireCount ∧ v 0x0E 6 = (r.firstFire.getD 0).toNat ∧
      v 0x14 6 = (r.lastFire.getD 0).toNat ∧ v 0x1A 6 = r.lastFireTick.toNat) ∧
    (∀ c, f.content = .captureDone c → c.entryCount < 2 ^ 32 →
      v 0x00 1 % 128 = 3 ∧ v 0x01 1 = c.slot.val ∧ v 0x08 1 = c.watch.val ∧ v 0x09 1 = captureStatus c.status ∧
      v 0x0A 2 = 0 ∧
      v 0x0C 4 = c.bufferTag.toNat ∧ v 0x10 6 = c.trigger.toNat ∧ v 0x16 6 = c.firstSample.toNat ∧
      v 0x1C 4 = c.entryCount) ∧
    (∀ r, f.content = .bufferReject r → r.bqIndex < 2 ^ 16 →
      v 0x00 1 % 128 = 4 ∧ v 0x01 1 = rejectReason r.reason ∧ v 0x08 4 = r.tag.toNat ∧ v 0x0C 2 = r.bqIndex ∧
      v 0x0E 18 = 0) ∧
    (∀ h, f.content = .acqHalt h →
      v 0x00 1 % 128 = 5 ∧ v 0x01 1 = h.watch.val ∧ v 0x08 6 = h.sample.toNat ∧ v 0x0E 18 = 0)) ∧
  (∀ (k : SampleNo) (isTrigger : Bool) (e : RingEntry),
    let v := fieldOf (captureEntryBytes k isTrigger e)
    (captureEntryBytes k isTrigger e).length = 16 ∧ v 0x00 6 = k.toNat ∧ v 0x06 1 = (if isTrigger then 1 else 0) ∧
    v 0x07 1 = 0 ∧ v 0x08 4 = e.data.toNat ∧ v 0x0C 4 = e.tickLow.toNat) ∧
  ∀ c : SnapshotContent, c.missed ≤ 255 → c.fireCount < 2 ^ 32 → c.skipRemaining < 2 ^ 32 →
    (∀ n, c.windowRemaining = some n → n < 2 ^ 32) → c.skip < 2 ^ 32 → c.window < 2 ^ 32 →
    let v := fieldOf c.recordBytes
    c.recordBytes.length = 64 ∧ v 0x00 1 = c.watch.val ∧ v 0x01 1 = watchState c.state ∧ v 0x02 1 = previous c.previous ∧
    v 0x03 1 = endReason c.endReason ∧
    v 0x04 1 =
      (if c.asOf.isSome then 1 else 0) + (if c.windowRemaining.isSome then 2 else 0) + (if c.fireCount = 0 then 0 else 4) ∧
    v 0x05 1 = c.missed ∧ v 0x06 2 = 0 ∧ v 0x08 6 = (c.asOf.getD 0).toNat ∧ v 0x0E 2 = 0 ∧
    v 0x10 6 = (c.firstFire.getD 0).toNat ∧ v 0x16 6 = (c.lastFire.getD 0).toNat ∧ v 0x1C 4 = c.fireCount ∧
    v 0x20 4 = c.skipRemaining ∧ v 0x24 4 = c.windowRemaining.getD 0 ∧ v 0x28 1 = (if c.test = .masked then 0 else 1) ∧
    v 0x29 1 = (if c.sense = .level then 0 else if c.sense = .enter then 1 else 2) ∧
    v 0x2A 1 = (if c.mode = .single then 0 else 1) ∧ v 0x2B 1 = (match c.predecessor with | none => 255 | some p => p.val) ∧
    v 0x2C 1 = (if c.relatch then 1 else 0) + (if c.capture then 2 else 0) + (if c.halt then 4 else 0) ∧ v 0x2D 3 = 0 ∧
    v 0x30 4 = c.skip ∧ v 0x34 4 = c.window ∧ v 0x38 8 = 0
end

