-- ==== Sys2Proof/Laws/State.lean ====
section
/-! SUPPORT. One lemma for each field of State after each update of Sys2Proof/Machine/Ops.lean, so that no proof unfolds a
record update; and what the three tables of State read as after an update that leaves their block. -/

namespace Sys2Proof.Machine

variable (s : State)

/-! ### `State.withTick` -/

@[simp] theorem State.withTick_pending (x : Tick) : (s.withTick x).pending = s.pending := rfl
@[simp] theorem State.withTick_resetAsserted (x : Tick) : (s.withTick x).resetAsserted = s.resetAsserted := rfl
@[simp] theorem State.withTick_tick (x : Tick) : (s.withTick x).tick = x := rfl
@[simp] theorem State.withTick_ctl (x : Tick) : (s.withTick x).ctl = s.ctl := rfl
@[simp] theorem State.withTick_acq (x : Tick) : (s.withTick x).acq = s.acq := rfl
@[simp] theorem State.withTick_eng (x : Tick) : (s.withTick x).eng = s.eng := rfl
@[simp] theorem State.withTick_cap (x : Tick) : (s.withTick x).cap = s.cap := rfl
@[simp] theorem State.withTick_fetch (x : Tick) : (s.withTick x).fetch = s.fetch := rfl
@[simp] theorem State.withTick_cmd (x : Tick) : (s.withTick x).cmd = s.cmd := rfl
@[simp] theorem State.withTick_evt (x : Tick) : (s.withTick x).evt = s.evt := rfl
@[simp] theorem State.withTick_port (x : Tick) : (s.withTick x).port = s.port := rfl
@[simp] theorem State.withTick_watch (x : Tick) (w : WatchId) : (s.withTick x).watch w = s.watch w := rfl
@[simp] theorem State.withTick_slot (x : Tick) (i : SlotId) : (s.withTick x).slot i = s.slot i := rfl
@[simp] theorem State.withTick_entry (x : Tick) (t : Tag) : (s.withTick x).entry t = s.entry t := rfl

/-! ### `State.withCtl` -/

@[simp] theorem State.withCtl_pending (x : Control) : (s.withCtl x).pending = s.pending := rfl
@[simp] theorem State.withCtl_resetAsserted (x : Control) : (s.withCtl x).resetAsserted = s.resetAsserted := rfl
@[simp] theorem State.withCtl_tick (x : Control) : (s.withCtl x).tick = s.tick := rfl
@[simp] theorem State.withCtl_ctl (x : Control) : (s.withCtl x).ctl = x := rfl
@[simp] theorem State.withCtl_acq (x : Control) : (s.withCtl x).acq = s.acq := rfl
@[simp] theorem State.withCtl_eng (x : Control) : (s.withCtl x).eng = s.eng := rfl
@[simp] theorem State.withCtl_cap (x : Control) : (s.withCtl x).cap = s.cap := rfl
@[simp] theorem State.withCtl_fetch (x : Control) : (s.withCtl x).fetch = s.fetch := rfl
@[simp] theorem State.withCtl_cmd (x : Control) : (s.withCtl x).cmd = s.cmd := rfl
@[simp] theorem State.withCtl_evt (x : Control) : (s.withCtl x).evt = s.evt := rfl
@[simp] theorem State.withCtl_port (x : Control) : (s.withCtl x).port = s.port := rfl
@[simp] theorem State.withCtl_watch (x : Control) (w : WatchId) : (s.withCtl x).watch w = s.watch w := rfl
@[simp] theorem State.withCtl_slot (x : Control) (i : SlotId) : (s.withCtl x).slot i = s.slot i := rfl
@[simp] theorem State.withCtl_entry (x : Control) (t : Tag) : (s.withCtl x).entry t = s.entry t := rfl

/-! ### `State.withAcq` -/

@[simp] theorem State.withAcq_pending (x : Acquisition) : (s.withAcq x).pending = s.pending := rfl
@[simp] theorem State.withAcq_resetAsserted (x : Acquisition) : (s.withAcq x).resetAsserted = s.resetAsserted := rfl
@[simp] theorem State.withAcq_tick (x : Acquisition) : (s.withAcq x).tick = s.tick := rfl
@[simp] theorem State.withAcq_ctl (x : Acquisition) : (s.withAcq x).ctl = s.ctl := rfl
@[simp] theorem State.withAcq_acq (x : Acquisition) : (s.withAcq x).acq = x := rfl
@[simp] theorem State.withAcq_eng (x : Acquisition) : (s.withAcq x).eng = s.eng := rfl
@[simp] theorem State.withAcq_cap (x : Acquisition) : (s.withAcq x).cap = s.cap := rfl
@[simp] theorem State.withAcq_fetch (x : Acquisition) : (s.withAcq x).fetch = s.fetch := rfl
@[simp] theorem State.withAcq_cmd (x : Acquisition) : (s.withAcq x).cmd = s.cmd := rfl
@[simp] theorem State.withAcq_evt (x : Acquisition) : (s.withAcq x).evt = s.evt := rfl
@[simp] theorem State.withAcq_port (x : Acquisition) : (s.withAcq x).port = s.port := rfl
@[simp] theorem State.withAcq_watch (x : Acquisition) (w : WatchId) : (s.withAcq x).watch w = s.watch w := rfl
@[simp] theorem State.withAcq_slot (x : Acquisition) (i : SlotId) : (s.withAcq x).slot i = s.slot i := rfl
@[simp] theorem State.withAcq_entry (x : Acquisition) (t : Tag) : (s.withAcq x).entry t = s.entry t := rfl

/-! ### `State.withEng` -/

@[simp] theorem State.withEng_pending (x : WatchEngine) : (s.withEng x).pending = s.pending := rfl
@[simp] theorem State.withEng_resetAsserted (x : WatchEngine) : (s.withEng x).resetAsserted = s.resetAsserted := rfl
@[simp] theorem State.withEng_tick (x : WatchEngine) : (s.withEng x).tick = s.tick := rfl
@[simp] theorem State.withEng_ctl (x : WatchEngine) : (s.withEng x).ctl = s.ctl := rfl
@[simp] theorem State.withEng_acq (x : WatchEngine) : (s.withEng x).acq = s.acq := rfl
@[simp] theorem State.withEng_eng (x : WatchEngine) : (s.withEng x).eng = x := rfl
@[simp] theorem State.withEng_cap (x : WatchEngine) : (s.withEng x).cap = s.cap := rfl
@[simp] theorem State.withEng_fetch (x : WatchEngine) : (s.withEng x).fetch = s.fetch := rfl
@[simp] theorem State.withEng_cmd (x : WatchEngine) : (s.withEng x).cmd = s.cmd := rfl
@[simp] theorem State.withEng_evt (x : WatchEngine) : (s.withEng x).evt = s.evt := rfl
@[simp] theorem State.withEng_port (x : WatchEngine) : (s.withEng x).port = s.port := rfl
@[simp] theorem State.withEng_watch (x : WatchEngine) (w : WatchId) : (s.withEng x).watch w = tget x.watches w := rfl
@[simp] theorem State.withEng_slot (x : WatchEngine) (i : SlotId) : (s.withEng x).slot i = s.slot i := rfl
@[simp] theorem State.withEng_entry (x : WatchEngine) (t : Tag) : (s.withEng x).entry t = s.entry t := rfl

/-! ### `State.withCap` -/

@[simp] theorem State.withCap_pending (x : CaptureUnit) : (s.withCap x).pending = s.pending := rfl
@[simp] theorem State.withCap_resetAsserted (x : CaptureUnit) : (s.withCap x).resetAsserted = s.resetAsserted := rfl
@[simp] theorem State.withCap_tick (x : CaptureUnit) : (s.withCap x).tick = s.tick := rfl
@[simp] theorem State.withCap_ctl (x : CaptureUnit) : (s.withCap x).ctl = s.ctl := rfl
@[simp] theorem State.withCap_acq (x : CaptureUnit) : (s.withCap x).acq = s.acq := rfl
@[simp] theorem State.withCap_eng (x : CaptureUnit) : (s.withCap x).eng = s.eng := rfl
@[simp] theorem State.withCap_cap (x : CaptureUnit) : (s.withCap x).cap = x := rfl
@[simp] theorem State.withCap_fetch (x : CaptureUnit) : (s.withCap x).fetch = s.fetch := rfl
@[simp] theorem State.withCap_cmd (x : CaptureUnit) : (s.withCap x).cmd = s.cmd := rfl
@[simp] theorem State.withCap_evt (x : CaptureUnit) : (s.withCap x).evt = s.evt := rfl
@[simp] theorem State.withCap_port (x : CaptureUnit) : (s.withCap x).port = s.port := rfl
@[simp] theorem State.withCap_watch (x : CaptureUnit) (w : WatchId) : (s.withCap x).watch w = s.watch w := rfl
@[simp] theorem State.withCap_slot (x : CaptureUnit) (i : SlotId) : (s.withCap x).slot i = tget x.slots i := rfl
@[simp] theorem State.withCap_entry (x : CaptureUnit) (t : Tag) : (s.withCap x).entry t = s.entry t := rfl

/-! ### `State.withFetch` -/

@[simp] theorem State.withFetch_pending (x : Fetcher) : (s.withFetch x).pending = s.pending := rfl
@[simp] theorem State.withFetch_resetAsserted (x : Fetcher) : (s.withFetch x).resetAsserted = s.resetAsserted := rfl
@[simp] theorem State.withFetch_tick (x : Fetcher) : (s.withFetch x).tick = s.tick := rfl
@[simp] theorem State.withFetch_ctl (x : Fetcher) : (s.withFetch x).ctl = s.ctl := rfl
@[simp] theorem State.withFetch_acq (x : Fetcher) : (s.withFetch x).acq = s.acq := rfl
@[simp] theorem State.withFetch_eng (x : Fetcher) : (s.withFetch x).eng = s.eng := rfl
@[simp] theorem State.withFetch_cap (x : Fetcher) : (s.withFetch x).cap = s.cap := rfl
@[simp] theorem State.withFetch_fetch (x : Fetcher) : (s.withFetch x).fetch = x := rfl
@[simp] theorem State.withFetch_cmd (x : Fetcher) : (s.withFetch x).cmd = s.cmd := rfl
@[simp] theorem State.withFetch_evt (x : Fetcher) : (s.withFetch x).evt = s.evt := rfl
@[simp] theorem State.withFetch_port (x : Fetcher) : (s.withFetch x).port = s.port := rfl
@[simp] theorem State.withFetch_watch (x : Fetcher) (w : WatchId) : (s.withFetch x).watch w = s.watch w := rfl
@[simp] theorem State.withFetch_slot (x : Fetcher) (i : SlotId) : (s.withFetch x).slot i = s.slot i := rfl
@[simp] theorem State.withFetch_entry (x : Fetcher) (t : Tag) : (s.withFetch x).entry t = s.entry t := rfl

/-! ### `State.withCmd` -/

@[simp] theorem State.withCmd_pending (x : CommandUnit) : (s.withCmd x).pending = s.pending := rfl
@[simp] theorem State.withCmd_resetAsserted (x : CommandUnit) : (s.withCmd x).resetAsserted = s.resetAsserted := rfl
@[simp] theorem State.withCmd_tick (x : CommandUnit) : (s.withCmd x).tick = s.tick := rfl
@[simp] theorem State.withCmd_ctl (x : CommandUnit) : (s.withCmd x).ctl = s.ctl := rfl
@[simp] theorem State.withCmd_acq (x : CommandUnit) : (s.withCmd x).acq = s.acq := rfl
@[simp] theorem State.withCmd_eng (x : CommandUnit) : (s.withCmd x).eng = s.eng := rfl
@[simp] theorem State.withCmd_cap (x : CommandUnit) : (s.withCmd x).cap = s.cap := rfl
@[simp] theorem State.withCmd_fetch (x : CommandUnit) : (s.withCmd x).fetch = s.fetch := rfl
@[simp] theorem State.withCmd_cmd (x : CommandUnit) : (s.withCmd x).cmd = x := rfl
@[simp] theorem State.withCmd_evt (x : CommandUnit) : (s.withCmd x).evt = s.evt := rfl
@[simp] theorem State.withCmd_port (x : CommandUnit) : (s.withCmd x).port = s.port := rfl
@[simp] theorem State.withCmd_watch (x : CommandUnit) (w : WatchId) : (s.withCmd x).watch w = s.watch w := rfl
@[simp] theorem State.withCmd_slot (x : CommandUnit) (i : SlotId) : (s.withCmd x).slot i = s.slot i := rfl
@[simp] theorem State.withCmd_entry (x : CommandUnit) (t : Tag) : (s.withCmd x).entry t = s.entry t := rfl

/-! ### `State.withEvt` -/

@[simp] theorem State.withEvt_pending (x : EventWriter) : (s.withEvt x).pending = s.pending := rfl
@[simp] theorem State.withEvt_resetAsserted (x : EventWriter) : (s.withEvt x).resetAsserted = s.resetAsserted := rfl
@[simp] theorem State.withEvt_tick (x : EventWriter) : (s.withEvt x).tick = s.tick := rfl
@[simp] theorem State.withEvt_ctl (x : EventWriter) : (s.withEvt x).ctl = s.ctl := rfl
@[simp] theorem State.withEvt_acq (x : EventWriter) : (s.withEvt x).acq = s.acq := rfl
@[simp] theorem State.withEvt_eng (x : EventWriter) : (s.withEvt x).eng = s.eng := rfl
@[simp] theorem State.withEvt_cap (x : EventWriter) : (s.withEvt x).cap = s.cap := rfl
@[simp] theorem State.withEvt_fetch (x : EventWriter) : (s.withEvt x).fetch = s.fetch := rfl
@[simp] theorem State.withEvt_cmd (x : EventWriter) : (s.withEvt x).cmd = s.cmd := rfl
@[simp] theorem State.withEvt_evt (x : EventWriter) : (s.withEvt x).evt = x := rfl
@[simp] theorem State.withEvt_port (x : EventWriter) : (s.withEvt x).port = s.port := rfl
@[simp] theorem State.withEvt_watch (x : EventWriter) (w : WatchId) : (s.withEvt x).watch w = s.watch w := rfl
@[simp] theorem State.withEvt_slot (x : EventWriter) (i : SlotId) : (s.withEvt x).slot i = s.slot i := rfl
@[simp] theorem State.withEvt_entry (x : EventWriter) (t : Tag) : (s.withEvt x).entry t = s.entry t := rfl

/-! ### `State.withPort` -/

@[simp] theorem State.withPort_pending (x : MemoryPort) : (s.withPort x).pending = s.pending := rfl
@[simp] theorem State.withPort_resetAsserted (x : MemoryPort) : (s.withPort x).resetAsserted = s.resetAsserted := rfl
@[simp] theorem State.withPort_tick (x : MemoryPort) : (s.withPort x).tick = s.tick := rfl
@[simp] theorem State.withPort_ctl (x : MemoryPort) : (s.withPort x).ctl = s.ctl := rfl
@[simp] theorem State.withPort_acq (x : MemoryPort) : (s.withPort x).acq = s.acq := rfl
@[simp] theorem State.withPort_eng (x : MemoryPort) : (s.withPort x).eng = s.eng := rfl
@[simp] theorem State.withPort_cap (x : MemoryPort) : (s.withPort x).cap = s.cap := rfl
@[simp] theorem State.withPort_fetch (x : MemoryPort) : (s.withPort x).fetch = s.fetch := rfl
@[simp] theorem State.withPort_cmd (x : MemoryPort) : (s.withPort x).cmd = s.cmd := rfl
@[simp] theorem State.withPort_evt (x : MemoryPort) : (s.withPort x).evt = s.evt := rfl
@[simp] theorem State.withPort_port (x : MemoryPort) : (s.withPort x).port = x := rfl
@[simp] theorem State.withPort_watch (x : MemoryPort) (w : WatchId) : (s.withPort x).watch w = s.watch w := rfl
@[simp] theorem State.withPort_slot (x : MemoryPort) (i : SlotId) : (s.withPort x).slot i = s.slot i := rfl
@[simp] theorem State.withPort_entry (x : MemoryPort) (t : Tag) : (s.withPort x).entry t = tget x.entries t := rfl

/-! ### `State.setWatch` -/

@[simp] theorem State.setWatch_pending (w : WatchId) (x : Watch) : (s.setWatch w x).pending = s.pending := rfl
@[simp] theorem State.setWatch_resetAsserted (w : WatchId) (x : Watch) : (s.setWatch w x).resetAsserted =
    s.resetAsserted := rfl
@[simp] theorem State.setWatch_tick (w : WatchId) (x : Watch) : (s.setWatch w x).tick = s.tick := rfl
@[simp] theorem State.setWatch_ctl (w : WatchId) (x : Watch) : (s.setWatch w x).ctl = s.ctl := rfl
@[simp] theorem State.setWatch_acq (w : WatchId) (x : Watch) : (s.setWatch w x).acq = s.acq := rfl
@[simp] theorem State.setWatch_eng (w : WatchId) (x : Watch) : (s.setWatch w x).eng =
    { s.eng with watches := tset s.eng.watches w x } := rfl
@[simp] theorem State.setWatch_cap (w : WatchId) (x : Watch) : (s.setWatch w x).cap = s.cap := rfl
@[simp] theorem State.setWatch_fetch (w : WatchId) (x : Watch) : (s.setWatch w x).fetch = s.fetch := rfl
@[simp] theorem State.setWatch_cmd (w : WatchId) (x : Watch) : (s.setWatch w x).cmd = s.cmd := rfl
@[simp] theorem State.setWatch_evt (w : WatchId) (x : Watch) : (s.setWatch w x).evt = s.evt := rfl
@[simp] theorem State.setWatch_port (w : WatchId) (x : Watch) : (s.setWatch w x).port = s.port := rfl
@[simp] theorem State.setWatch_slot (w : WatchId) (x : Watch) (j : SlotId) : (s.setWatch w x).slot j = s.slot j := rfl
@[simp] theorem State.setWatch_entry (w : WatchId) (x : Watch) (u : Tag) : (s.setWatch w x).entry u = s.entry u := rfl

/-! ### `State.setSlot` -/

@[simp] theorem State.setSlot_pending (i : SlotId) (x : Slot) : (s.setSlot i x).pending = s.pending := rfl
@[simp] theorem State.setSlot_resetAsserted (i : SlotId) (x : Slot) : (s.setSlot i x).resetAsserted =
    s.resetAsserted := rfl
@[simp] theorem State.setSlot_tick (i : SlotId) (x : Slot) : (s.setSlot i x).tick = s.tick := rfl
@[simp] theorem State.setSlot_ctl (i : SlotId) (x : Slot) : (s.setSlot i x).ctl = s.ctl := rfl
@[simp] theorem State.setSlot_acq (i : SlotId) (x : Slot) : (s.setSlot i x).acq = s.acq := rfl
@[simp] theorem State.setSlot_eng (i : SlotId) (x : Slot) : (s.setSlot i x).eng = s.eng := rfl
@[simp] theorem State.setSlot_cap (i : SlotId) (x : Slot) : (s.setSlot i x).cap =
    { s.cap with slots := tset s.cap.slots i x } := rfl
@[simp] theorem State.setSlot_fetch (i : SlotId) (x : Slot) : (s.setSlot i x).fetch = s.fetch := rfl
@[simp] theorem State.setSlot_cmd (i : SlotId) (x : Slot) : (s.setSlot i x).cmd = s.cmd := rfl
@[simp] theorem State.setSlot_evt (i : SlotId) (x : Slot) : (s.setSlot i x).evt = s.evt := rfl
@[simp] theorem State.setSlot_port (i : SlotId) (x : Slot) : (s.setSlot i x).port = s.port := rfl
@[simp] theorem State.setSlot_watch (i : SlotId) (x : Slot) (w : WatchId) : (s.setSlot i x).watch w = s.watch w := rfl
@[simp] theorem State.setSlot_entry (i : SlotId) (x : Slot) (u : Tag) : (s.setSlot i x).entry u = s.entry u := rfl

/-! ### `State.setEntry` -/

@[simp] theorem State.setEntry_pending (t : Tag) (x : PortEntry) : (s.setEntry t x).pending = s.pending := rfl
@[simp] theorem State.setEntry_resetAsserted (t : Tag) (x : PortEntry) : (s.setEntry t x).resetAsserted =
    s.resetAsserted := rfl
@[simp] theorem State.setEntry_tick (t : Tag) (x : PortEntry) : (s.setEntry t x).tick = s.tick := rfl
@[simp] theorem State.setEntry_ctl (t : Tag) (x : PortEntry) : (s.setEntry t x).ctl = s.ctl := rfl
@[simp] theorem State.setEntry_acq (t : Tag) (x : PortEntry) : (s.setEntry t x).acq = s.acq := rfl
@[simp] theorem State.setEntry_eng (t : Tag) (x : PortEntry) : (s.setEntry t x).eng = s.eng := rfl
@[simp] theorem State.setEntry_cap (t : Tag) (x : PortEntry) : (s.setEntry t x).cap = s.cap := rfl
@[simp] theorem State.setEntry_fetch (t : Tag) (x : PortEntry) : (s.setEntry t x).fetch = s.fetch := rfl
@[simp] theorem State.setEntry_cmd (t : Tag) (x : PortEntry) : (s.setEntry t x).cmd = s.cmd := rfl
@[simp] theorem State.setEntry_evt (t : Tag) (x : PortEntry) : (s.setEntry t x).evt = s.evt := rfl
@[simp] theorem State.setEntry_port (t : Tag) (x : PortEntry) : (s.setEntry t x).port =
    { s.port with entries := tset s.port.entries t x } := rfl
@[simp] theorem State.setEntry_watch (t : Tag) (x : PortEntry) (w : WatchId) : (s.setEntry t x).watch w = s.watch w := rfl
@[simp] theorem State.setEntry_slot (t : Tag) (x : PortEntry) (j : SlotId) : (s.setEntry t x).slot j = s.slot j := rfl

/-! ### `State.complete` and `State.setFault` -/

@[simp] theorem State.complete_pending (st : CmdStatus) : (s.complete st).pending = s.pending := rfl
@[simp] theorem State.complete_resetAsserted (st : CmdStatus) : (s.complete st).resetAsserted = s.resetAsserted := rfl
@[simp] theorem State.complete_tick (st : CmdStatus) : (s.complete st).tick = s.tick := rfl
@[simp] theorem State.complete_ctl (st : CmdStatus) : (s.complete st).ctl = s.ctl := rfl
@[simp] theorem State.complete_acq (st : CmdStatus) : (s.complete st).acq = s.acq := rfl
@[simp] theorem State.complete_eng (st : CmdStatus) : (s.complete st).eng = s.eng := rfl
@[simp] theorem State.complete_cap (st : CmdStatus) : (s.complete st).cap = s.cap := rfl
@[simp] theorem State.complete_fetch (st : CmdStatus) : (s.complete st).fetch = s.fetch := rfl
@[simp] theorem State.complete_cmd (st : CmdStatus) : (s.complete st).cmd = s.cmd.complete st := rfl
@[simp] theorem State.complete_evt (st : CmdStatus) : (s.complete st).evt = s.evt := rfl
@[simp] theorem State.complete_port (st : CmdStatus) : (s.complete st).port = s.port := rfl
@[simp] theorem State.setFault_pending : s.setFault.pending = s.pending := rfl
@[simp] theorem State.setFault_resetAsserted : s.setFault.resetAsserted = s.resetAsserted := rfl
@[simp] theorem State.setFault_tick : s.setFault.tick = s.tick := rfl
@[simp] theorem State.setFault_ctl : s.setFault.ctl = s.ctl := rfl
@[simp] theorem State.setFault_acq : s.setFault.acq = s.acq := rfl
@[simp] theorem State.setFault_eng : s.setFault.eng = s.eng := rfl
@[simp] theorem State.setFault_cap : s.setFault.cap = s.cap := rfl
@[simp] theorem State.setFault_fetch : s.setFault.fetch = s.fetch := rfl
@[simp] theorem State.setFault_cmd : s.setFault.cmd = s.cmd := rfl
@[simp] theorem State.setFault_evt : s.setFault.evt = { s.evt with interrupt := { s.evt.interrupt with fault := true } } := rfl
@[simp] theorem State.setFault_port : s.setFault.port = s.port := rfl

end Sys2Proof.Machine
end

