-- ==== Sys2Proof/Laws/Table.lean ====
section
/-! SUPPORT. Fixed tables: read after write, read after a change of every place, and the order of ticks. -/

namespace Sys2Proof.Machine

variable {α : Type} {n : Nat}

@[simp] theorem tget_tset_same (v : Vector α n) (i : Fin n) (x : α) : tget (tset v i x) i = x := by
  simp [tget, tset, Vector.get_eq_getElem]

theorem tget_tset_other (v : Vector α n) {i j : Fin n} (x : α) (h : j ≠ i) : tget (tset v i x) j = tget v j := by
  have : i.val ≠ j.val := fun e => h (Fin.ext e.symm)
  simp [tget, tset, Vector.get_eq_getElem, this]

theorem tget_tset (v : Vector α n) (i j : Fin n) (x : α) : tget (tset v i x) j = if j = i then x else tget v j := by
  split
  next h => rw [h, tget_tset_same]
  next h => exact tget_tset_other v x h

@[simp] theorem tget_tmap (f : Fin n → α → α) (v : Vector α n) (i : Fin n) : tget (tmap f v) i = f i (tget v i) := by
  simp [tget, tmap, Vector.get_eq_getElem]

@[simp] theorem tget_replicate (x : α) (i : Fin n) : tget (Vector.replicate n x) i = x := by
  simp [tget, Vector.get_eq_getElem]

/-- Two tables with the same element at every place are equal. -/
theorem table_ext {u v : Vector α n} (h : ∀ i, tget u i = tget v i) : u = v := by
  apply Vector.ext
  intro i hi
  simpa [tget, Vector.get_eq_getElem] using h ⟨i, hi⟩

/-- Writing back what a place holds changes nothing. -/
theorem tset_tget (v : Vector α n) (i : Fin n) : tset v i (tget v i) = v :=
  table_ext fun j => by
    rw [tget_tset]
    split
    next h => rw [h]
    next => rfl

end Sys2Proof.Machine
end

