-- ==== Sys2Proof/Laws/Ops.lean ====
section
/-! SUPPORT. For each shared operation of Sys2Proof/Machine/Ops.lean, what it can do, said once: the guards under which it
acts, the state it gives, and that otherwise it leaves the state as it was. -/

namespace Sys2Proof.Machine

/-! ### Tables of State -/

@[simp] theorem State.setWatch_watch_same (s : State) (w : WatchId) (x : Watch) : (s.setWatch w x).watch w = x :=
  tget_tset_same _ _ _

theorem State.setWatch_watch (s : State) (w v : WatchId) (x : Watch) :
    (s.setWatch w x).watch v = if v = w then x else s.watch v :=
  tget_tset _ _ _ _

@[simp] theorem State.setSlot_slot_same (s : State) (i : SlotId) (x : Slot) : (s.setSlot i x).slot i = x :=
  tget_tset_same _ _ _

theorem State.setSlot_slot (s : State) (i j : SlotId) (x : Slot) :
    (s.setSlot i x).slot j = if j = i then x else s.slot j :=
  tget_tset _ _ _ _

@[simp] theorem State.setEntry_entry_same (s : State) (t : Tag) (x : PortEntry) : (s.setEntry t x).entry t = x :=
  tget_tset_same _ _ _

theorem State.setEntry_entry (s : State) (t u : Tag) (x : PortEntry) :
    (s.setEntry t x).entry u = if u = t then x else s.entry u :=
  tget_tset _ _ _ _

/-! ### Ring indices -/

theorem ringDistance_lt {size lo hi : Nat} (h : 0 < size) : ringDistance size lo hi < size := Nat.mod_lt _ h

/-! ### Checks by which a block asks for access -/

theorem State.checkCommandFetch_cases (s : State) :
    (s.ctl.device = .enabled ∧ s.cmd.state = .idle ∧ 0 < s.cmd.available ∧
      s.checkCommandFetch = s.withCmd { s.cmd with state := .fetching, link := .standing }) ∨
    (¬ (s.ctl.device = .enabled ∧ s.cmd.state = .idle ∧ 0 < s.cmd.available) ∧ s.checkCommandFetch = s) := by
  by_cases h : s.ctl.device = .enabled ∧ s.cmd.state = .idle ∧ 0 < s.cmd.available
  · exact .inl ⟨h.1, h.2.1, h.2.2, if_pos h⟩
  · exact .inr ⟨h, if_neg h⟩

/-- The guard of the Buffer Fetcher's check (R100). -/
abbrev State.bufferFetchDue (s : State) : Prop :=
  s.ctl.device = .enabled ∧ s.fetch.fetch = .idle ∧ 0 < s.fetch.available ∧
    s.cap.cache.length < Config.cacheDepth ∧ s.fetch.rejections = []

theorem State.checkBufferFetch_cases (s : State) :
    (s.bufferFetchDue ∧ s.checkBufferFetch = s.withFetch { s.fetch with fetch := .requested }) ∨
    (¬ s.bufferFetchDue ∧ s.checkBufferFetch = s) := by
  by_cases h : s.bufferFetchDue
  · exact .inl ⟨h, if_pos h⟩
  · exact .inr ⟨h, if_neg h⟩

/-- The check changes at most the fetch state. -/
theorem State.checkBufferFetch_eq (s : State) :
    s.checkBufferFetch = s.withFetch { s.fetch with fetch := s.checkBufferFetch.fetch.fetch } := by
  obtain ⟨-, h⟩ | ⟨-, h⟩ := s.checkBufferFetch_cases <;> rw [h] <;> rfl

/-! ### Commands -/

theorem State.dispatched_eq_some {s : State} {k : CommandKind} {c : CurrentCommand} :
    s.dispatched k = some c ↔
      s.ctl.device = .enabled ∧ s.cmd.state = .executing ∧ s.cmd.current = some c ∧ kindOf c.record.kind = some k := by
  unfold State.dispatched
  split <;> simp_all [Option.filter_eq_some_iff]

theorem State.dispatchedWatch_eq_some {s : State} {k : CommandKind} {c : CurrentCommand} {w : WatchId} :
    s.dispatchedWatch k = some (c, w) ↔
      s.eng.begun = false ∧ s.dispatched k = some c ∧ watchOf c.record.watchId = some w := by
  unfold State.dispatchedWatch
  cases s.eng.begun <;> cases h : s.dispatched k <;> simp [and_comm, and_assoc]
  grind

theorem CommandUnit.complete_of_current {u : CommandUnit} {c : CurrentCommand} (h : u.current = some c)
    (st : CmdStatus) :
    u.complete st = { u with state := .posting, current := none, held := some (c.done st) } := by
  simp [CommandUnit.complete, h]

theorem CommandUnit.complete_of_none {u : CommandUnit} (h : u.current = none) (st : CmdStatus) : u.complete st = u := by
  simp [CommandUnit.complete, h]

/-! ### Capture requests -/

theorem CaptureUnit.freeSlot_eq_none {c : CaptureUnit} :
    c.freeSlot = none ↔ ∀ i, (tget c.slots i).state ≠ .free := by
  simp [CaptureUnit.freeSlot]

theorem CaptureUnit.freeSlot_state {c : CaptureUnit} {i : SlotId} (h : c.freeSlot = some i) :
    (tget c.slots i).state = .free := by
  have := List.find?_some h
  simpa using this

/-- What an accepted capture request does (R70), in full. -/
theorem State.requestCapture_some {s t : State} {w : WatchId} {k : SampleNo} {pre post : Nat}
    (h : s.requestCapture w k pre post = some t) :
    s.ctl.device = .enabled ∧ ∃ i d rest, s.cap.freeSlot = some i ∧ s.cap.cache = d :: rest ∧
      t = (s.withCap
        { s.cap with
          slots :=
            tset s.cap.slots i ((Slot.allocated s.acq s.cap.runEndMark w k pre post d).checkRequest s.acq)
          cache := rest }).checkBufferFetch := by
  unfold State.requestCapture at h
  split at h
  next he =>
    split at h
    next i d rest hi hc => exact ⟨he, i, d, rest, hi, hc, (Option.some.inj h).symm⟩
    next => cases h
  next => cases h

/-- When a capture request is refused (R70). -/
theorem State.requestCapture_none {s : State} {w : WatchId} {k : SampleNo} {pre post : Nat} :
    s.requestCapture w k pre post = none ↔
      s.ctl.device ≠ .enabled ∨ (∀ i, (s.slot i).state ≠ .free) ∨ s.cap.cache = [] := by
  unfold State.requestCapture
  by_cases he : s.ctl.device = .enabled
  · cases hf : s.cap.freeSlot with
    | none =>
      have := CaptureUnit.freeSlot_eq_none.mp hf
      simpa [he, hf] using .inl this
    | some i =>
      have hs := CaptureUnit.freeSlot_state hf
      cases hc : s.cap.cache with
      | nil => simp [he]
      | cons d rest => simpa [he] using ⟨i, hs⟩
  · simp [he]

/-- A capture request leaves every block but the Capture Unit and the fetch state. -/
theorem State.requestCapture_frame {s t : State} {w : WatchId} {k : SampleNo} {pre post : Nat}
    (h : s.requestCapture w k pre post = some t) :
    t = { s with cap := t.cap, fetch := { s.fetch with fetch := t.fetch.fetch } } := by
  obtain ⟨-, i, d, rest, -, -, rfl⟩ := State.requestCapture_some h
  obtain ⟨-, h⟩ | ⟨-, h⟩ := State.checkBufferFetch_cases
    (s.withCap { s.cap with
      slots := tset s.cap.slots i ((Slot.allocated s.acq s.cap.runEndMark w k pre post d).checkRequest s.acq)
      cache := rest }) <;> rw [h] <;> rfl

/-- The requests of a sample leave every block but the Capture Unit, the fetch state and the missed counts. -/
theorem State.makeCaptureRequests_frame (p : PresentedSample) (ws : List WatchId) (s : State) :
    State.makeCaptureRequests p ws s =
      { s with
        cap := (State.makeCaptureRequests p ws s).cap
        fetch := { s.fetch with fetch := (State.makeCaptureRequests p ws s).fetch.fetch }
        eng := { s.eng with watches := (State.makeCaptureRequests p ws s).eng.watches } } := by
  induction ws generalizing s with
  | nil => rfl
  | cons w rest ih =>
    simp only [State.makeCaptureRequests]
    split
    · split
      next t ht =>
        have hf := State.requestCapture_frame ht
        rw [ih t]
        generalize State.makeCaptureRequests p rest t = u
        rw [hf]
      next =>
        rw [ih (s.setWatch w (s.watch w).countMissed)]
        rfl
    · exact ih s

/-! ### Leaving ENABLED -/

/-- Outside ENABLED every capture request of a sample is refused, and counted (R50, R70). -/
theorem State.makeCaptureRequests_refused (p : PresentedSample) (ws : List WatchId) (s : State)
    (h : s.ctl.device ≠ .enabled) :
    State.makeCaptureRequests p ws s =
      s.withEng
        { s.eng with
          watches := ws.foldl
            (fun v w => if (tget v w).config.capture then tset v w (tget v w).countMissed else v) s.eng.watches } := by
  induction ws generalizing s with
  | nil => rfl
  | cons w rest ih =>
    simp only [State.makeCaptureRequests, List.foldl_cons]
    split
    next hc =>
      have hc' : (tget s.eng.watches w).config.capture = true := hc
      rw [State.requestCapture_none.mpr (.inl h), if_pos hc']
      exact ih (s.setWatch w (s.watch w).countMissed) h
    next hc =>
      have hc' : ¬ (tget s.eng.watches w).config.capture = true := hc
      rw [if_neg hc']
      exact ih s h

theorem State.withEng_withEng (s : State) (a b : WatchEngine) : (s.withEng a).withEng b = s.withEng b := rfl

/-! ### Starting acquisition -/

/-- The conditions of R60, in ENABLED. -/
theorem State.startReady_iff (s : State) :
    s.startReady = true ↔ s.ctl.device = .enabled ∧ s.acq.heldStart = true ∧ s.eng.presented = none ∧
      (∀ i, (s.slot i).state ≠ .filling) ∧ s.acq.pendingHalt = none := by
  simp [State.startReady, State.sampleOutstanding, CaptureUnit.someFilling, State.slot, and_assoc]

/-- What a check of a held START can do (R60, R61). -/
theorem State.checkStart_cases (s : State) :
    (s.startReady = true ∧ s.checkStart = s.takeStart) ∨ (s.startReady = false ∧ s.checkStart = s) := by
  unfold State.checkStart
  cases h : s.startReady with
  | true => exact .inl ⟨rfl, rfl⟩
  | false => exact .inr ⟨rfl, rfl⟩

/-- Outside ENABLED no START is taken. -/
theorem State.checkStart_of_left {s : State} (h : s.ctl.device ≠ .enabled) : s.checkStart = s :=
  s.checkStart_cases.elim (fun x => absurd ((State.startReady_iff s).1 x.1).1 h) And.right

/-- After a check no START is left that could be taken. -/
theorem State.checkStart_notReady (s : State) : s.checkStart.startReady = false := by
  obtain ⟨-, h⟩ | ⟨h, e⟩ := s.checkStart_cases
  · rw [h]
    simp [State.startReady, State.takeStart, State.complete]
  · rwa [e]

/-- What a check can change: the acquisition state, the held count and the held START, the waiting notice, and the Command
Unit, which takes the status. -/
theorem State.checkStart_frame (s : State) :
    s.checkStart =
      { s with
        acq :=
          { s.acq with
            state := s.checkStart.acq.state, heldCount := s.checkStart.acq.heldCount
            heldStart := s.checkStart.acq.heldStart }
        eng := { s.eng with noticeWaiting := s.checkStart.eng.noticeWaiting }
        cmd := s.checkStart.cmd } := by
  obtain ⟨-, h⟩ | ⟨-, h⟩ := s.checkStart_cases
  · rw [h]; rfl
  · rw [h]

/-- The check neither reads nor changes the Memory Port. -/
theorem State.checkStart_withPort (s : State) (x : MemoryPort) : (s.withPort x).checkStart = s.checkStart.withPort x := by
  have same : (s.withPort x).startReady = s.startReady := rfl
  unfold State.checkStart
  rw [same]
  split <;> rfl

/-- The check neither reads nor changes the Event Writer. -/
theorem State.checkStart_withEvt (s : State) (x : EventWriter) : (s.withEvt x).checkStart = s.checkStart.withEvt x := by
  have same : (s.withEvt x).startReady = s.startReady := rfl
  unfold State.checkStart
  rw [same]
  split <;> rfl

/-- What the arrival of a START can do while IDLE (R60). -/
theorem State.holdStart_cases (s : State) :
    ((∃ c, s.dispatched .start = some c) ∧ s.acq.state = .idle ∧
      s.holdStart = s.withAcq { s.acq with heldStart := true }) ∨
    ((∀ c, s.dispatched .start = some c → s.acq.state ≠ .idle) ∧ s.holdStart = s) := by
  unfold State.holdStart
  split
  next c ha hd => exact .inl ⟨⟨c, ha⟩, hd, rfl⟩
  next h => exact .inr ⟨h, rfl⟩

theorem State.closeSample_idle {s : State} (h : s.acq.state = .idle) (halt : Option WatchId) (n : SampleNo) :
    s.closeSample halt n = (s.withEng { s.eng with presented := none, begun := false }).checkStart := by
  unfold State.closeSample
  cases halt with
  | none => rfl
  | some w => simp [h]

/-- An evaluation leaves every block but the Watch Engine, once the part has left ENABLED (R50). -/
theorem State.evaluateSample_frame {s : State} (hd : s.ctl.device ≠ .enabled) (ha : s.acq.state = .idle)
    (p : PresentedSample) : ∃ e, s.evaluateSample p = s.withEng e := by
  have key (e : WatchEngine) (h : Option WatchId) (n : SampleNo) : ∃ e', (s.withEng e).closeSample h n = s.withEng e' := by
    rw [State.closeSample_idle (s := s.withEng e) ha, State.checkStart_of_left (by exact hd)]
    exact ⟨_, rfl⟩
  simp only [State.evaluateSample]
  rw [State.makeCaptureRequests_refused p _ (s.withEng (s.eng.evaluateAll p)) hd, State.withEng_withEng,
    State.withEng_withEng]
  exact key _ _ _

/-- The close of a presented sample keeps every block but the Watch Engine, where acquisition is IDLE and the part has left
ENABLED. -/
theorem State.closePresented_frame (s : State) (hd : s.ctl.device ≠ .enabled) (ha : s.acq.state = .idle) :
    s.closePresented = s.withEng s.closePresented.eng := by
  have h : ∃ e, s.closePresented = s.withEng e := by
    unfold State.closePresented
    split
    · exact ⟨s.eng, rfl⟩
    next p _ =>
      split
      · exact State.evaluateSample_frame hd ha p
      · exact ⟨_, rfl⟩
  obtain ⟨e, h⟩ := h
  rw [h]
  rfl

/-- What every block keeps when all stop (R173, R176): the Watch Engine has closed its presented sample. -/
theorem State.stopBlocks_eq (s : State) (d : DeviceState) (hd : d ≠ .enabled) :
    s.stopBlocks d =
      { s with
        acq := { s.acq with state := .idle, heldStart := false }
        eng := (s.stopBlocks d).eng
        cap := s.cap.stop
        fetch := s.fetch.withdraw
        cmd := s.cmd.abandon
        evt := s.evt.stop s.cmd.held
        ctl :=
          { s.ctl with
            device := d
            setupRequest := if s.ctl.setupRequest = .outstanding then .outstanding else .none } } := by
  unfold State.stopBlocks
  rw [State.closePresented_frame _ hd rfl]
  rfl

/-! ### Fatal errors -/

theorem State.enterFaulted_eq (s : State) (code : FaultCode) :
    s.enterFaulted code =
      { s with
        acq := { s.acq with state := .idle, heldStart := false }
        eng := (s.stopBlocks .faulted).eng
        cap := s.cap.stop
        fetch := s.fetch.withdraw
        cmd := s.cmd.abandon
        evt := { s.evt.stop s.cmd.held with interrupt := { s.evt.interrupt with fault := true } }
        ctl :=
          { s.ctl with
            device := .faulted
            setupRequest := if s.ctl.setupRequest = .outstanding then .outstanding else .none
            faultCode := code
            multi := false } } := by
  simp only [State.enterFaulted]
  rw [State.stopBlocks_eq s .faulted (by decide)]
  rfl

/-- A fatal error report, by the device state (R175). -/
theorem State.fatal_cases (s : State) (code : FaultCode) :
    ((s.ctl.device = .starting ∨ s.ctl.device = .enabled) ∧ s.fatal code = s.enterFaulted code) ∨
    (s.ctl.device = .faulted ∧ s.fatal code = s.setFault.withCtl { s.ctl with multi := true }) ∨
    ((s.ctl.device = .stopping ∨ s.ctl.device = .resetting ∨ s.ctl.device = .disabled) ∧ s.fatal code = s) := by
  unfold State.fatal
  cases h : s.ctl.device <;> simp

/-! ### Entering DISABLED -/

/-- The end of a passage (R161, R173, R174). -/
theorem State.endPassage_cases (s : State) :
    (s.port.someActive = false ∧ s.ctl.device = .stopping ∧ s.endPassage = s.disabledValues) ∨
    (s.port.someActive = false ∧ s.ctl.device = .resetting ∧ s.endPassage = s.softResetValues) ∨
    (¬ (s.port.someActive = false ∧ (s.ctl.device = .stopping ∨ s.ctl.device = .resetting)) ∧ s.endPassage = s) := by
  unfold State.endPassage
  cases ha : s.port.someActive <;> cases h : s.ctl.device <;> simp

end Sys2Proof.Machine
end

