-- ==== Sys2Proof/Laws/Port.lean ====
section
/-! SUPPORT. The Memory Port: what a grant, a response and an expiry can do, said once, and what a grant leaves of each
requester. -/

namespace Sys2Proof.Machine

/-! ### Grants -/

/-- The tag of a grant is the lowest FREE one (R151). -/
theorem MemoryPort.freeTag_eq_some {m : MemoryPort} {t : Tag} (h : m.freeTag = some t) :
    tget m.entries t = .free := by
  have := List.find?_some h
  simpa using this

theorem MemoryPort.freeTag_eq_none {m : MemoryPort} : m.freeTag = none ↔ ∀ t, tget m.entries t ≠ .free := by
  simp [MemoryPort.freeTag]

/-- A grant made, or none (R151, R152). -/
theorem State.makeGrant_cases (s : State) :
    (∃ q t, (s.ctl.device = .starting ∨ s.ctl.device = .enabled) ∧ s.nextRequester = some q ∧
      s.port.freeTag = some t ∧ s.makeGrant = s.issueGrant q t) ∨
    s.makeGrant = s := by
  unfold State.makeGrant
  split
  next hd =>
    split
    next q t hq ht => exact .inl ⟨q, t, hd, hq, ht, rfl⟩
    next => exact .inr rfl
  next => exact .inr rfl

/-- The requester granted has a standing request, and fewer ACTIVE entries than its limit (R151). -/
theorem State.nextRequester_eligible {s : State} {q : Requester} (h : s.nextRequester = some q) :
    s.standing q = true ∧ s.port.activeCount q < q.limit := by
  have := List.find?_some h
  simpa using this

/-- Telling a requester of its grant leaves the blocks of the other requesters and all else, but for a held START that a
slot's grant lets be taken (R60). -/
theorem State.tellGranted_frame (s : State) (t : Tag) (q : Requester) :
    s.tellGranted t q =
      { s with
        ctl := (s.tellGranted t q).ctl
        acq :=
          { s.acq with
            state := (s.tellGranted t q).acq.state, heldCount := (s.tellGranted t q).acq.heldCount
            heldStart := (s.tellGranted t q).acq.heldStart }
        eng := { s.eng with noticeWaiting := (s.tellGranted t q).eng.noticeWaiting }
        cmd := (s.tellGranted t q).cmd
        fetch := (s.tellGranted t q).fetch
        evt := (s.tellGranted t q).evt
        cap := { s.cap with slots := (s.tellGranted t q).cap.slots } } := by
  cases q with
  | slot i =>
    obtain ⟨-, h⟩ | ⟨-, h⟩ := (s.setSlot i ((s.slot i).onGrant s.acq t)).checkStart_cases
    all_goals
      change s.tellGranted t (.slot i) = _ at h
      rw [h]
      rfl
  | _ => rfl

/-- A grant to a slot: the slot and the Memory Port change, and a held START is checked (R78, R152, R69). -/
theorem State.issueGrant_slot (s : State) (i : SlotId) (t : Tag) :
    s.issueGrant (.slot i) t =
      ((s.setSlot i ((s.slot i).onGrant s.acq t)).withPort (s.issueGrant (.slot i) t).port).checkStart := by
  rw [State.checkStart_withPort]
  rfl

/-! ### Responses and expiries -/

/-- What a response does, by the state of its tag's entry (R155). -/
theorem State.takeResponse_cases (s : State) (r : Response) :
    (s.entry r.tag = .free ∧ s.takeResponse r = s) ∨
    (∃ size e, s.entry r.tag = .stale size e ∧ s.takeResponse r = s.setEntry r.tag .free) ∨
    (∃ q size e, s.entry r.tag = .active q size e ∧
      s.takeResponse r = ((s.setEntry r.tag .free).deliver q r.tag r.answer r.data).endPassage) := by
  unfold State.takeResponse
  cases h : s.entry r.tag with
  | free => exact .inl ⟨rfl, rfl⟩
  | stale size e => exact .inr (.inl ⟨size, e, rfl, rfl⟩)
  | active q size e => exact .inr (.inr ⟨q, size, e, rfl, rfl⟩)

/-- While an entry is ACTIVE no passage ends (R161). -/
theorem State.endPassage_of_active {s : State} {u : Tag} (h : (s.entry u).isActive = true) : s.endPassage = s := by
  have : s.port.someActive = true := List.any_eq_true.2 ⟨u, List.mem_finRange u, h⟩
  simp [State.endPassage, this]

/-- What the expiry of an entry does (R157). -/
theorem State.takeExpiry_cases (s : State) (t : Tag) :
    (∃ q size e, s.entry t = .active q size (some e) ∧ reached s.tick e = true ∧
      s.takeExpiry t = ((s.setEntry t (.stale size (some e))).deliver q t .error 0).endPassage) ∨
    ((∀ q size e, s.entry t = .active q size (some e) → reached s.tick e = false) ∧ s.takeExpiry t = s) := by
  unfold State.takeExpiry
  cases h : s.entry t with
  | free => exact .inr ⟨by simp, rfl⟩
  | stale size e => exact .inr ⟨by simp, rfl⟩
  | active q size e =>
    cases e with
    | none => exact .inr ⟨by simp, rfl⟩
    | some e =>
      cases hr : reached s.tick e with
      | true => exact .inl ⟨q, size, e, rfl, hr, by simp [hr]⟩
      | false => exact .inr ⟨by simpa using hr, by simp [hr]⟩

/-- A response at a slot changes that slot at most, and a held START is checked (R69). -/
theorem State.toSlot_cases (s : State) (i : SlotId) (t : Tag) (ans : Answer) :
    ∃ x, s.toSlot i t ans = (s.setSlot i x).checkStart := by
  have keep : s = s.setSlot i (s.slot i) := by
    have : tset s.cap.slots i (s.slot i) = s.cap.slots := tset_tget _ _
    simp only [State.setSlot, State.withCap, this]
  unfold State.toSlot
  have out (x : Slot) (h : s.ctl.device ≠ .enabled) : s.setSlot i x = (s.setSlot i x).checkStart :=
    (State.checkStart_of_left (s := s.setSlot i x) h).symm
  cases h : s.ctl.device with
  | enabled => exact ⟨_, rfl⟩
  | disabled => exact ⟨_, keep.trans (out _ (by simp [h]))⟩
  | starting => exact ⟨_, keep.trans (out _ (by simp [h]))⟩
  | faulted => exact ⟨_, out _ (by simp [h])⟩
  | stopping => exact ⟨_, out _ (by simp [h])⟩
  | resetting => exact ⟨_, out _ (by simp [h])⟩

/-- The tail advances by 1 modulo the size (R116). -/
theorem EventWriter.advance_tail (e : EventWriter) : e.advance.tail = (e.tail + 1) % e.size := rfl

/-- An event counted changes the moderation count, the holdoff timer and EVENTS at most (R123). -/
theorem EventWriter.count_frame (e : EventWriter) (tick : Tick) :
    e.count tick =
      { e with
        moderation := (e.count tick).moderation
        holdoffTimer := (e.count tick).holdoffTimer
        interrupt := { e.interrupt with events := (e.count tick).interrupt.events } } := by
  unfold EventWriter.count
  split <;> rfl

/-- The descriptors of a batch join the tails of the two lists (R102). -/
theorem takeDescriptors_lengths (data : ReadData) (first n i : Nat) (acc : List Descriptor × List Rejection) :
    (takeDescriptors data first n i acc).1.length + (takeDescriptors data first n i acc).2.length =
      acc.1.length + acc.2.length + n := by
  induction n generalizing i acc with
  | zero => rfl
  | succ n ih =>
    obtain ⟨cache, rejections⟩ := acc
    simp only [takeDescriptors]
    split <;> rw [ih] <;> simp <;> omega

end Sys2Proof.Machine
end

