-- ==== Sys2Proof/Laws/Slots.lean ====
section
/-! SUPPORT. Capture Slots: what a check, a close, an arrival notice and a write response can do to one slot, said once. -/

namespace Sys2Proof.Machine

/-- The check of R76 changes at most the standing request, and only from no to yes. -/
theorem Slot.checkRequest_cases (a : Acquisition) (sl : Slot) :
    (sl.state = .filling ∧ sl.requestStanding = false ∧ sl.bursts.length < Config.burstListDepth ∧
      sl.runDue a = true ∧ sl.checkRequest a = { sl with requestStanding := true }) ∨
    sl.checkRequest a = sl := by
  unfold Slot.checkRequest
  split
  next h => exact .inl ⟨h.1, h.2.1, h.2.2.1, h.2.2.2, rfl⟩
  next => exact .inr rfl

/-- The close of a slot, in full (R82, R86, R90). -/
theorem Slot.close_eq (c : CaptureStatus) (sl : Slot) :
    sl.close c =
      { sl with
        state := if sl.outstanding = 0 then .posting else .closing
        requestStanding := false
        status := some (sl.status.getD c) } := by
  unfold Slot.close Slot.settle Slot.causeStatus
  by_cases h : sl.outstanding = 0 <;> simp [h]

/-- An arrival notice leaves a slot that is not FILLING (R76, R82). -/
theorem Slot.onArrival_of_not_filling {sl : Slot} (h : sl.state ≠ .filling) (a : Acquisition) (k : Option SampleNo) :
    sl.onArrival a k = sl := by
  simp [Slot.onArrival, h]

/-- A write response leaves the window, the buffer and the trigger of its slot. -/
theorem Slot.answered_frame (t : Tag) (ans : Answer) (sl : Slot) :
    sl.answered t ans =
      { sl with
        outstanding := sl.outstanding - 1
        leading := sl.leading + (leadingRun (markBurst t ans sl.bursts)).1
        bursts := (leadingRun (markBurst t ans sl.bursts)).2 } := rfl

/-- The records marked, and the list's length, are those of the burst list. -/
theorem markBurst_length (t : Tag) (ans : Answer) (l : List BurstRecord) : (markBurst t ans l).length = l.length := by
  induction l with
  | nil => rfl
  | cons b rest ih =>
    simp only [markBurst]
    split
    · rfl
    · simp [ih]

/-- The leading run that leaves the list, as the longest run of records answered OK at its head (R80). -/
theorem leadingRun_eq (l : List BurstRecord) :
    leadingRun l =
      (((l.takeWhile fun x => x.answer == .ok).map (·.count)).sum, l.dropWhile fun x => x.answer == .ok) := by
  induction l with
  | nil => rfl
  | cons b rest ih =>
    by_cases h : b.answer = .ok
    · simp [leadingRun, h, ih, Nat.add_comm]
    · simp [leadingRun, h]

/-- The bytes of a burst: 16 for each entry (R79, Table 10-11). -/
theorem Slot.burstBytes_length (a : Acquisition) (sl : Slot) (n : Nat) (k : SampleNo) :
    (sl.burstBytes a n k).length = 16 * n := by
  induction n generalizing k with
  | zero => rfl
  | succ n ih =>
    simp only [Slot.burstBytes, List.length_append, ih, captureEntryBytes, bytes48, reserved, List.length_replicate]
    simp [leBytes]
    omega

end Sys2Proof.Machine
end

