-- ==== Sys2Proof/Laws/Requests.lean ====
section
/-! SUPPORT. The check of R76 and the end-of-run notice of R84 in the terms of the statements: what each leaves of one slot,
said once. -/

namespace Sys2Proof.Machine

/-- The present run, by the newest sample number (R76). -/
theorem Slot.presentRun_eq_runTo (a : Acquisition) (sl : Slot) : sl.presentRun a = sl.runTo a.newest := by
  unfold Slot.presentRun Slot.runTo
  cases a.newest with
  | none => rfl
  | some n =>
    dsimp only
    split <;> omega

theorem Slot.endArrived_eq_endPresent (a : Acquisition) (sl : Slot) : sl.endArrived a = sl.endPresent a.newest := by
  unfold Slot.endArrived Slot.endPresent
  cases a.newest <;> rfl

/-- Condition 3 of R76. -/
theorem Slot.runDue_iff (a : Acquisition) (sl : Slot) :
    sl.runDue a = true ↔
      16 ≤ sl.runTo a.newest ∨
        (1 ≤ sl.runTo a.newest ∧ (sl.flushing = true ∨ sl.endPresent a.newest = true)) := by
  simp [Slot.runDue, Slot.presentRun_eq_runTo, Slot.endArrived_eq_endPresent, Config.burstEntries, or_comm]

/-- The check of R76, in full: it answers the slot with a request standing exactly when it had one or has to ask. -/
theorem Slot.checkRequest_checked (a : Acquisition) (sl : Slot) : sl.Checked a.newest (sl.checkRequest a) := by
  have h : sl.MustAsk a.newest ↔ sl.state = .filling ∧ sl.requestStanding = false ∧
      sl.bursts.length < Config.burstListDepth ∧ sl.runDue a = true := by
    rw [Slot.runDue_iff]
  unfold Slot.checkRequest
  split
  next g => exact ⟨rfl, iff_of_true rfl (.inr (h.2 g))⟩
  next g => exact ⟨rfl, ⟨.inl, fun e => e.elim id fun m => absurd (h.1 m) g⟩⟩

/-- The check of R76 gives one slot only. -/
theorem Slot.Checked.unique {sl x y : Slot} {n : Option SampleNo} (hx : sl.Checked n x) (hy : sl.Checked n y) : x = y := by
  have : x.requestStanding = y.requestStanding := Bool.eq_iff_iff.2 (hx.2.trans hy.2.symm)
  rw [hx.1, hy.1, this]

/-- An end-of-run notice at one slot, in full (R84). -/
theorem Slot.onEndOfRun_cutAt (a : Acquisition) (n : SampleNo) (sl : Slot) :
    sl.CutAt a.newest n (sl.onEndOfRun a n) := by
  unfold Slot.CutAt Slot.onEndOfRun
  split
  next =>
    by_cases h : sl.pos sl.nextToCopy ≤ sl.pos n
    · rw [if_pos h, if_neg (by simpa [Slot.pos] using h)]
      exact Slot.checkRequest_checked _ _
    · rw [if_neg h, if_pos (by simpa [Slot.pos] using h), Slot.close_eq]
      simp [Slot.causeStatus]
  next => exact Slot.checkRequest_checked _ _

/-- An arrival notice at one slot that is not overrun by it (R76, R82). -/
theorem Slot.onArrival_checked {a : Acquisition} {k : Option SampleNo} {sl : Slot}
    (h : ∀ x, k = some x → ¬ (sl.state = .filling ∧ sl.flushing = false ∧ sl.needs x = true)) :
    sl.Checked a.newest (sl.onArrival a k) := by
  have stay (g : sl.state ≠ .filling) : sl.Checked a.newest sl := ⟨rfl, ⟨.inl, fun e => e.elim id fun m => absurd m.1 g⟩⟩
  unfold Slot.onArrival
  split
  next g =>
    cases k with
    | none => exact Slot.checkRequest_checked _ _
    | some x =>
      dsimp only
      rw [if_neg fun e => h x rfl ⟨g, e.1, e.2⟩]
      exact Slot.checkRequest_checked _ _
  next g => exact stay g

end Sys2Proof.Machine
end

