-- ==== Sys2Proof/Laws/Ring.lean ====
section
/-! SUPPORT. The History Ring: every write keeps the canonical form, and a read after a write. -/

namespace Sys2Proof.Machine

theorem ringAbove_cons {lo p : Nat} {x : RingEntry} {rest : List (Nat × RingEntry)} :
    ringAbove lo ((p, x) :: rest) = true ↔
      lo ≤ p ∧ p < Config.ringDepth ∧ x ≠ blankEntry ∧ ringAbove (p + 1) rest = true := by
  simp [ringAbove, and_assoc]

theorem ringAbove_mono {lo lo' : Nat} {r : List (Nat × RingEntry)} (h : ringAbove lo r = true) (hl : lo' ≤ lo) :
    ringAbove lo' r = true := by
  cases r with
  | nil => rfl
  | cons a rest =>
    obtain ⟨h1, h2, h3, h4⟩ := ringAbove_cons.mp h
    exact ringAbove_cons.mpr ⟨le_trans hl h1, h2, h3, h4⟩

/-- A position below every position listed reads as blank. -/
theorem ringRead_below {lo q : Nat} {r : List (Nat × RingEntry)} (h : ringAbove lo r = true) (hq : q < lo) :
    ringRead r q = blankEntry := by
  induction r generalizing lo with
  | nil => rfl
  | cons a rest ih =>
    obtain ⟨p, x⟩ := a
    obtain ⟨h1, -, -, h4⟩ := ringAbove_cons.mp h
    simp only [ringRead, if_neg (show ¬ p = q by omega)]
    exact ih h4 (by omega)

/-- A write at or above the bound keeps the form above the bound. -/
theorem ringAbove_ringWrite {lo q : Nat} {r : List (Nat × RingEntry)} (e : RingEntry) (h : ringAbove lo r = true)
    (hlo : lo ≤ q) (hq : q < Config.ringDepth) : ringAbove lo (ringWrite r q e) = true := by
  induction r generalizing lo with
  | nil =>
    by_cases he : e = blankEntry
    · simp [ringWrite, he, ringAbove]
    · simpa [ringWrite, he, ringAbove] using ⟨hlo, hq⟩
  | cons a rest ih =>
    obtain ⟨p, x⟩ := a
    obtain ⟨h1, h2, h3, h4⟩ := ringAbove_cons.mp h
    simp only [ringWrite]
    split
    · split
      · exact h
      · exact ringAbove_cons.mpr ⟨hlo, hq, ‹_›, ringAbove_cons.mpr ⟨by omega, h2, h3, h4⟩⟩
    · split
      · subst q
        split
        · exact ringAbove_mono h4 (by omega)
        · exact ringAbove_cons.mpr ⟨h1, h2, ‹_›, h4⟩
      · exact ringAbove_cons.mpr ⟨h1, h2, h3, ih h4 (by omega)⟩

/-- The form is kept by every write of a sample's entry. -/
theorem ringWf_ringWrite {r : List (Nat × RingEntry)} (k : SampleNo) (e : RingEntry) (h : ringWf r = true) :
    ringWf (ringWrite r (ringPosition k) e) = true :=
  ringAbove_ringWrite e h (Nat.zero_le _) (Nat.mod_lt _ (by decide))

theorem ringRead_ringWrite_above {lo : Nat} {r : List (Nat × RingEntry)} (q : Nat) (e : RingEntry) (k : Nat)
    (h : ringAbove lo r = true) : ringRead (ringWrite r q e) k = if k = q then e else ringRead r k := by
  induction r generalizing lo with
  | nil =>
    simp only [ringWrite]
    split
    next he => simp [ringRead, he]
    next =>
      simp only [ringRead]
      split
      next hk => simp [hk.symm]
      next hk => simp [Ne.symm hk]
  | cons a rest ih =>
    obtain ⟨p, x⟩ := a
    obtain ⟨-, -, -, h4⟩ := ringAbove_cons.mp h
    simp only [ringWrite]
    split
    next hqp =>
      have hb : ringRead rest q = blankEntry := ringRead_below h4 (by omega)
      split
      next he =>
        split
        next hk => simp [ringRead, hk, hb, he, show ¬ p = q by omega]
        next => rfl
      next =>
        simp only [ringRead]
        split
        next hk => simp [hk.symm]
        next hk => simp [Ne.symm hk]
    next hqp =>
      split
      next hqe =>
        subst hqe
        split
        next he =>
          split
          next hk => rw [hk, he]; exact ringRead_below h4 (by omega)
          next hk => simp [ringRead, Ne.symm hk]
        next =>
          simp only [ringRead]
          split
          next hk => simp [hk.symm]
          next hk => simp [Ne.symm hk]
      next hne =>
        simp only [ringRead]
        split
        next hk => rw [if_neg (by omega)]
        next hk => exact ih h4

/-- A read after a write: the value written at its position, and every other position as before. -/
theorem ringRead_ringWrite {r : List (Nat × RingEntry)} (q : Nat) (e : RingEntry) (k : Nat) (h : ringWf r = true) :
    ringRead (ringWrite r q e) k = if k = q then e else ringRead r k :=
  ringRead_ringWrite_above q e k h

/-- Two samples whose numbers differ by less than 2048 lie at different positions. -/
theorem ringPosition_injective {j k : SampleNo} (h : (j - k).toNat < Config.ringDepth)
    (he : ringPosition j = ringPosition k) : j = k := by
  apply BitVec.eq_of_toNat_eq
  simp only [ringPosition, Config.ringDepth, BitVec.toNat_sub] at *
  have := j.isLt
  have := k.isLt
  omega

end Sys2Proof.Machine
end

