-- ==== Sys2Proof/Laws/Sampling.lean ====
section
/-! SUPPORT. The bound on an evaluation (R187): what a REFCLK period does to a presented sample, and what the start-of-run
notice does to the watches, said once. -/

namespace Sys2Proof.Machine

theorem PresentedSample.due_iff (p : PresentedSample) (tick : Tick) :
    p.due tick = true ↔ 8 ≤ (tick + 1 - p.arrivalTick).toNat := decide_eq_true_iff

/-- The end of an overdue evaluation: the notice first where one waits, then the evaluation, and otherwise nothing. -/
theorem State.endDueEvaluation_cases (s : State) :
    (∃ p, s.eng.presented = some p ∧ s.ctl.device = .enabled ∧ 8 ≤ (s.tick + 1 - p.arrivalTick).toNat ∧
      s.endDueEvaluation =
        (if s.eng.noticeWaiting = true then s.withEng s.eng.takeNotice else s).evaluateSample p) ∨
    ((∀ p, s.eng.presented = some p → ¬ (s.ctl.device = .enabled ∧ 8 ≤ (s.tick + 1 - p.arrivalTick).toNat)) ∧
      s.endDueEvaluation = s) := by
  unfold State.endDueEvaluation
  cases hp : s.eng.presented with
  | none => exact .inr ⟨fun p h => (Option.some_ne_none p h.symm).elim, rfl⟩
  | some p =>
    dsimp only
    by_cases h : s.ctl.device = .enabled ∧ p.due s.tick = true
    · exact .inl ⟨p, rfl, h.1, (p.due_iff _).1 h.2, if_pos h⟩
    · refine .inr ⟨fun q hq g => h ⟨g.1, ?_⟩, if_neg h⟩
      cases hq
      exact (p.due_iff _).2 g.2

/-- With no sample presented a REFCLK period only counts (R51). -/
theorem State.endDueEvaluation_of_none {s : State} (h : s.eng.presented = none) : s.endDueEvaluation = s := by
  simp [State.endDueEvaluation, h]

theorem WatchEngine.takeNotice_watch (e : WatchEngine) (w : WatchId) :
    tget e.takeNotice.watches w = (tget e.watches w).onStartOfRun := by
  simp [WatchEngine.takeNotice, tget_tmap]

/-- The notice leaves everything but the watches and its own flag. -/
theorem WatchEngine.takeNotice_frame (e : WatchEngine) :
    e.takeNotice = { e with watches := e.takeNotice.watches, noticeWaiting := false } := rfl

end Sys2Proof.Machine
end

