-- ==== Sys2Proof/Laws/Watches.lean ====
section
/-! SUPPORT. Watch contexts: what an evaluation, a promotion, a report and the checks of LOAD can do to one context, said
once. -/

namespace Sys2Proof.Machine

/-- A watch that is not LIVE has no occurrence (R25). -/
theorem Watch.occurs_of_not_live {w : Watch} (h : w.state ≠ .live) (x : Word) : w.occurs x = false := by
  simp [Watch.occurs, h]

/-- A watch that is not LIVE does not fire (R25). -/
theorem Watch.fires_of_not_live {w : Watch} (h : w.state ≠ .live) (x : Word) : w.fires x = false := by
  simp [Watch.fires, Watch.occurs_of_not_live h]

/-- An evaluation leaves a watch that is not LIVE (R25). -/
theorem Watch.evaluate_of_not_live {w : Watch} (h : w.state ≠ .live) (p : PresentedSample) : w.evaluate p = w := by
  simp [Watch.evaluate, h]

/-- No evaluation changes a configuration (R2). -/
@[simp] theorem Watch.evaluate_config (p : PresentedSample) (w : Watch) : (w.evaluate p).config = w.config := by
  unfold Watch.evaluate
  split
  · dsimp only
    split
    · simp only [Watch.afterFire, Watch.recordFire]
      split <;> rfl
    · split <;> rfl
  · rfl

/-- A promotion or a relatch enters the watch into LIVE, and every other watch is as it was (R38, R39). -/
theorem Watch.succeed_cases (fired : List WatchId) (tick : Tick) (w : Watch) :
    (w.succeed fired tick = w.enterLive tick ∧ ∃ p, w.config.predecessor = some p ∧ p ∈ fired ∧
      (w.state = .pending ∨ (w.state = .live ∧ w.config.relatch = true))) ∨
    w.succeed fired tick = w := by
  unfold Watch.succeed
  split
  next => exact .inr rfl
  next p hp =>
    split
    next h =>
      simp only [Bool.and_eq_true, decide_eq_true_eq, Bool.or_eq_true, beq_iff_eq] at h
      exact .inl ⟨rfl, p, hp, h.1, h.2⟩
    next => exact .inr rfl

/-- No promotion changes a configuration (R2). -/
@[simp] theorem Watch.succeed_config (fired : List WatchId) (tick : Tick) (w : Watch) :
    (w.succeed fired tick).config = w.config := by
  obtain ⟨h, -⟩ | h := w.succeed_cases fired tick
  · rw [h]; rfl
  · rw [h]

/-- The watches that fire on a sample (R24). -/
theorem mem_firedSet {v : Vector Watch 64} {p : PresentedSample} {w : WatchId} :
    w ∈ firedSet v p ↔ (tget v w).fires p.data = true := by
  simp [firedSet]

/-- Joining the Report List keeps it free of repeats (R18). -/
theorem joinReports_nodup {l : List WatchId} (h : l.Nodup) (w : WatchId) : (joinReports l w).Nodup := by
  unfold joinReports
  split
  next => exact h
  next hw => exact List.nodup_append.mpr ⟨h, by simp, by
    simp only [List.mem_singleton, forall_eq]
    intro a ha e
    exact hw (e ▸ ha)⟩

/-- Who is in the Report List after a join (R18). -/
theorem mem_joinReports {l : List WatchId} {w v : WatchId} : v ∈ joinReports l w ↔ v ∈ l ∨ v = w := by
  unfold joinReports
  split
  next h => exact ⟨.inl, fun e => e.elim id (fun e => e ▸ h)⟩
  next => simp

/-- A watch that names another as its predecessor, while it is not FREE (R17). -/
theorem hasSuccessor_iff {v : Vector Watch 64} {w : WatchId} :
    hasSuccessor v w = true ↔ ∃ u, (tget v u).state ≠ .free ∧ (tget v u).config.predecessor = some w := by
  simp [hasSuccessor]

end Sys2Proof.Machine
end

