-- ==== Sys2Proof/Tests/Slice0.lean ====
section
/-! SUPPORT. Tests of single commands, with results taken from the manual's worked examples, and for every statement with
hypotheses a concrete state that meets them. Every state is built from `enabled` by the helpers below. -/

-- one thread is enough for small theorems
set_option Elab.async false

namespace Sys2Proof.Tests

open Sys2Proof.Machine

/-! ### States -/

/-- The state after a command. -/
def after (c : Instr) (s : State) : State :=
  match exec c s with
  | .next t => t
  | .fault _ => s
  | .refused _ => s

/-- A legal setup. -/
def setup : Setup where
  cqBase := 0x1000
  bqBase := 0x2000
  eqBase := 0x3000
  cqSizeCode := 4
  bqSizeCode := 4
  eqSizeCode := 5
  threshold := 2
  holdoff := 500
  responseLimit := 1000

/-- The part in STARTING, its Setup Block read granted tag 0. -/
def starting : State := after .grant (after (.enable 1) State.reset)

/-- The part right after its entry into ENABLED. -/
def enabled : State := (starting.setEntry 0 .free).enterEnabled setup

/-- The part in another device state. -/
def inDevice (s : State) (d : DeviceState) : State := s.withCtl { s.ctl with device := d }

/-- A command record with a kind, a watch id and the rest 0, predecessor NONE. -/
def record (kind w : Byte) : CommandRecord where
  kind := kind
  watchId := w
  tag := 7
  slot := 0
  test := 0
  sense := 0
  mode := 0
  mask := 1
  value := 1
  fieldOffset := 0
  fieldWidth := 0
  predecessor := 0xFF
  options := 0
  low := 0
  high := 0
  skip := 0
  window := 0
  pre := 0
  post := 0
  snapshotAddress := 0

/-- The current command that holds a record. -/
def current (r : CommandRecord) : CurrentCommand := { record := r, headAfter := 1 }

/-- A record taken and dispatched. -/
def executing (s : State) (r : CommandRecord) : State :=
  s.withCmd { s.cmd with head := 1, tail := 1, state := .executing, current := some (current r) }

/-- MATCH on bit 0, LEVEL, SINGLE. -/
def onBit0 : WatchConfig := { WatchConfig.freeValues with mask := 1, value := 1 }

/-- An IDLE watch. -/
def idleWatch (c : WatchConfig) : Watch := { Watch.freeContext with config := c, state := .idle }

/-- A LIVE watch with a previous result. -/
def liveWatch (c : WatchConfig) (previous : PrevResult) : Watch :=
  { Watch.freeContext with config := c, state := .live, previous := previous }

/-- A DONE watch with one unreported fire on sample 5. -/
def doneWatch (c : WatchConfig) : Watch :=
  { Watch.freeContext with
    config := c, state := .done, fireCount := 1, firstFire := some 5, lastFire := some 5, lastFireTick := 50,
    endReason := .fired }

/-- A sample presented to the Watch Engine in a run. -/
def presented (s : State) (p : PresentedSample) : State :=
  (s.withAcq { s.acq with state := .running, sampleCounter := p.number + 1, heldCount := 1 }).withEng
    { s.eng with presented := some p }

/-- Sample 812 with all bits 1, at tick 5200. -/
def sample812 : PresentedSample := { number := 812, data := 0xFFFFFFFF, arrivalTick := 5200 }

/-- A descriptor of 4096 entries. -/
def buffer (tag : Word) : Descriptor := { address := 0x10000, capacity := 4096, tag := tag }

/-- The part with these descriptors in the Buffer Cache. -/
def withBuffers (s : State) (l : List Descriptor) : State := s.withCap { s.cap with cache := l }

/-- An entry ACTIVE for an owner, granted at tick 0. -/
def withActive (s : State) (t : Tag) (q : Requester) : State := s.setEntry t (.active q 64 (some 1000))

/-- A slot FILLING samples 8976 to 14000, the entries below 9008 granted in two bursts (4.14). -/
def slot414 : Slot where
  state := .filling
  watch := 20
  buffer := 0x10000
  capacity := 8192
  bufferTag := 0x41
  trigger := 10000
  windowStart := 8976
  windowEnd := 14000
  clipped := false
  flushing := false
  nextToCopy := 9008
  requestStanding := true
  leading := 16
  bursts := [{ count := 16, answer := .waiting, tag := 5 }]
  outstanding := 1
  status := none

/-- The part of 4.14 before sample `n` arrives, its ring full. -/
def running414 (n : SampleNo) : State :=
  ((withActive enabled 5 (.slot 0)).setSlot 0 slot414).withAcq
    { enabled.acq with state := .running, sampleCounter := n, heldCount := 2048 }

/-- An event in flight at the tail, its write granted tag 2. -/
def writing (s : State) (c : EventContent) : State :=
  (withActive s 2 .writer).withEvt
    { s.evt with
      inFlight := some { index := s.evt.tail, phase := s.evt.lapParity, eventTick := 0, content := c }
      request := .outstanding }

/-- A disable and a soft reset, each met by an ACTIVE entry of a requester and by slot 3's at tag 7. -/
abbrev PassageMet (s : State) (tag : Tag) (q : Requester) : Prop :=
  ∀ c ∈ [Instr.disable 0, .softReset 2],
    let t := after c (withActive s 7 (.slot 3))
    t.entry tag = .active q 64 (some 1000) ∧ t.PassageWaits tag

/-- A CMD_DONE content. -/
def cmdDone : CmdDone := { tag := 7, kind := 1, status := .ok, headAfter := 1, detail := none }

/-- An OK response. -/
def okFor (t : Tag) : Response := { tag := t, answer := .ok, data := 0 }

/-- An ERROR response. -/
def errorFor (t : Tag) : Response := { tag := t, answer := .error, data := 0 }

/-- A table in which every predecessor named has a lower id, and is not FREE, holds no loop. -/
theorem chainsSound_of_lower {s : State}
    (h : ∀ w : WatchId, ∀ p, (s.watch w).config.predecessor = some p → p < w ∧ (s.watch p).state ≠ .free) :
    s.ChainsSound := by
  have low : ∀ n (w v : WatchId), predecessorChain s.eng.watches (n + 1) w = some v → v < w := by
    intro n
    induction n with
    | zero =>
      intro w v hv
      simp only [predecessorChain] at hv
      split at hv
      next => cases hv
      next p hp => exact Option.some.inj hv ▸ (h w p hp).1
    | succ n ih =>
      intro w v hv
      rw [predecessorChain] at hv
      split at hv
      next => cases hv
      next p hp => exact (ih p v hv).trans (h w p hp).1
  exact fun w _ => ⟨fun n hn => lt_irrefl _ (low n w w hn), fun p hp => (h w p hp).2⟩

/-! ### Well-formed commands: one ill-formed command for each check -/

theorem test_wellFormed_nop : WellFormed (.nop 0 0x02) = false := by decide +kernel
theorem test_wellFormed_enable : WellFormed (.enable 0) = false := by decide
theorem test_wellFormed_enable_reset : WellFormed (.enable 3) = false := by decide
theorem test_wellFormed_disable : WellFormed (.disable 1) = false := by decide
theorem test_wellFormed_disable_reset : WellFormed (.disable 2) = false := by decide
theorem test_wellFormed_softReset : WellFormed (.softReset 1) = false := by decide
theorem test_wellFormed_resetPin : WellFormed (.resetPinAsserted 15) = false := by decide

/-! ### Worked examples of the manual -/

/-- 1.5: watch 2 names 1 and watch 3 names 2; LOAD 1 with predecessor 3 closes a loop. -/
def chain : State :=
  ((enabled.setWatch 1 (idleWatch onBit0)).setWatch 2 (idleWatch { onBit0 with predecessor := some 1 })).setWatch 3
    (idleWatch { onBit0 with predecessor := some 2 })

/-- The status of the held completion. -/
def heldStatus (s : State) : Option CmdStatus := s.cmd.held.map fun d => d.status

theorem test_load_chainLoop :
    heldStatus (after .load (executing chain { record 0x02 1 with predecessor := 3 })) = some .chainLoop := by
  decide +kernel

theorem test_load_noPredecessor :
    heldStatus (after .load (executing chain { record 0x02 1 with predecessor := 4 })) = some .noPredecessor := by
  decide +kernel

/-- 2.10, sample 102 and sample 107: ENTER, REPEAT, skip 2. -/
def watch7 (skipRemaining : Nat) : Watch :=
  { liveWatch { onBit0 with sense := .enter, mode := .repeated, skip := 2 } .isFalse with
    skipRemaining := skipRemaining }

theorem test_skip_counts :
    (watch7 2).evaluate { number := 102, data := 1, arrivalTick := 0 } =
      { watch7 2 with previous := .isTrue, skipRemaining := 1 } := by decide +kernel

theorem test_skip_fires :
    ((watch7 0).evaluate { number := 107, data := 1, arrivalTick := 0 }).skipRemaining = 2 ∧
    ((watch7 0).evaluate { number := 107, data := 1, arrivalTick := 0 }).firstFire = some 107 := by decide +kernel

/-- 2.12: watch 40, LEVEL, SINGLE, with its expiry raised; the sample is taken first. -/
def watch40 : Watch :=
  { liveWatch { onBit0 with window := 200, capture := true } .isTrue with
    windowExpiry := some 5200, expiryRaised := true }

theorem test_sample_before_expiry :
    let t := after (.windowExpiry 40) (after (.sampleEvaluation .whole) (presented (enabled.setWatch 40 watch40) sample812))
    (t.watch 40).endReason = .fired ∧ (t.watch 40).fireCount = 1 ∧ t.eng.reportList = [40] := by decide +kernel

theorem test_expiry_before_sample :
    let t := after (.sampleEvaluation .whole) (after (.windowExpiry 40) (presented (enabled.setWatch 40 watch40) sample812))
    (t.watch 40).endReason = .expired ∧ (t.watch 40).fireCount = 0 := by decide +kernel

/-- 4.14: the arrival of sample 11055 leaves the slot, that of 11056 overruns it. -/
theorem test_overrun :
    ((after (.sampleArrival 0) (running414 11055)).slot 0).state = .filling ∧
    ((after (.sampleArrival 0) (running414 11056)).slot 0).status = some .overrun := by decide +kernel

/-- 5.7: the response to the first batch. -/
def batch57 : ReadData :=
  BitVec.ofNat 512
    (0x10000 + 4096 * 2 ^ 64 + 0x100 * 2 ^ 96 + (0x20000 + 4096 * 2 ^ 64 + 0x101 * 2 ^ 96) * 2 ^ 128 +
      (0x30008 + 4096 * 2 ^ 64 + 0x102 * 2 ^ 96) * 2 ^ 256 + (0x40000 + 4096 * 2 ^ 64 + 0x103 * 2 ^ 96) * 2 ^ 384)

/-- The part with a batch read granted tag 3. -/
def reading57 : State :=
  (withActive enabled 3 .fetcher).withFetch
    { enabled.fetch with tail := 6, fetch := .reading, batch := some { first := 0, length := 4 } }

theorem test_batch :
    let t := after (.bqReadResponse { tag := 3, answer := .ok, data := batch57 }) reading57
    t.cap.cache.map (fun d => d.tag) = [0x100, 0x101, 0x103] ∧
    t.fetch.rejections = [{ tag := 0x102, reason := .misaligned, bqIndex := 2 }] ∧ t.fetch.head = 4 ∧
    t.fetch.fetch = .idle := by decide +kernel

/-- 6.8: the write answered OK at tick 1000 with threshold 4 and holdoff 500. -/
theorem test_holdoff_starts :
    (after (.eqWriteResponse (okFor 2)) ((writing
      (enabled.withEvt { enabled.evt with threshold := 4 }) (.cmdDone cmdDone)).withTick 1000)).evt.holdoffTimer =
      some 1500 := by decide +kernel

/-- 8.8: the response for tag 5 at tick 20520, and the grant that follows. -/
theorem test_rotation :
    let s := (((withActive enabled 5 (.slot 1)).withCmd { enabled.cmd with state := .fetching, link := .standing })).withTick 20520
    let p := { s.port with grantPointer := Requester.slot 2 }
    (after .grant (s.withPort { p with entries := tset p.entries 0 (.stale 64 (some 20500)) })).entry 1 =
      .active .command 64 (some 21520) := by decide +kernel

/-- 9.3: a Setup Block with EQ size code 14. -/
theorem test_setup_invalid :
    (after (.setupReadResponse
      { tag := 0, answer := .ok, data := BitVec.ofNat 512 (4 * 2 ^ 192 + 4 * 2 ^ 200 + 14 * 2 ^ 208 + 2 ^ 224) })
      starting).ctl.faultCode = .setupInvalid := by decide +kernel

/-- 9.5: EQ size 64, tail 40, head 30; EQ_HEAD = 41 is out of range. -/
theorem test_eqHead_range :
    let s := enabled.withEvt { enabled.evt with sizeCode := 6, tail := 40, head := 30 }
    (after (.eqHeadWrite 41) s).readRegister .status = 0x803 ∧ (after (.eqHeadWrite 41) s).readRegister .eqHead = 30 := by
  decide +kernel

/-- R187: 15 periods are no assertion, 16 are one. -/
theorem test_reset_pin :
    after (.resetPinAsserted 15) enabled = enabled ∧
    (after (.resetPinAsserted 16) enabled).resetAsserted = true := by decide +kernel

/-- R187: the sample accepted at tick 5200 may wait at the end of the 7th period, and is evaluated in the 8th. -/
theorem test_evaluation_bound :
    let s := presented (enabled.setWatch 40 { watch40 with expiryRaised := false }) sample812
    (after .refclkTick (s.withTick 5206)).eng.presented = some sample812 ∧
    (after .refclkTick (s.withTick 5207)).eng.presented = none ∧
    ((after .refclkTick (s.withTick 5207)).watch 40).endReason = .fired ∧
    (after .refclkTick (s.withTick 5207)).tick = 5208 := by decide +kernel

/-- R63 and R84: a halting sample ends its run, and its own capture is cut at it, TRUNCATED. -/
theorem test_halt_cuts :
    let w := { watch40 with config := { watch40.config with halt := true, post := 5 } }
    let t := after (.sampleEvaluation .whole) (presented (withBuffers (enabled.setWatch 40 w) [buffer 1]) sample812)
    t.acq.state = .idle ∧ t.acq.pendingHalt = some { watch := 40, sample := 812 } ∧ (t.slot 0).windowEnd = 812 ∧
    (t.slot 0).status = some .truncated ∧ (t.slot 0).requestStanding = true ∧ t.cap.runEndMark = some 812 := by
  decide +kernel

/-- R182: the bytes of a BUFFER_REJECT of tag 0x102, MISALIGNED, BQ index 2, phase 1, at tick 0x0102. -/
theorem test_record_bytes :
    ({ index := 0, phase := true, eventTick := 0x0102,
       content := .bufferReject { tag := 0x102, reason := .misaligned, bqIndex := 2 } } : InFlight).recordBytes =
      [0x84, 3, 2, 1, 0, 0, 0, 0, 2, 1, 0, 0, 2, 0] ++ List.replicate 18 0 := by decide +kernel

/-! ### A state that meets the hypotheses of each statement -/

/-! Decision procedures for the properties whose instance is found in parts only. -/

def decideLegal (c : WatchConfig) : Decidable c.Legal := inferInstance

def decideWatch (w : Watch) : Decidable w.Sound :=
  haveI := decideLegal w.config
  inferInstance

def decideSlot (sl : Slot) : Decidable sl.Sound := inferInstance

def decideWatches (s : State) : Decidable s.WatchesSound :=
  haveI (w : WatchId) := decideWatch (s.watch w)
  inferInstance

def decideReports (s : State) : Decidable s.ReportsExact := inferInstance

def decideCaptures (s : State) : Decidable s.CapturesSound :=
  haveI (i : SlotId) := decideSlot (s.slot i)
  haveI (w : WatchId) := decideLegal (s.watch w).config
  inferInstance

theorem slotSound_of {sl : Slot} (h : @decide sl.Sound (decideSlot sl) = true) : sl.Sound :=
  @of_decide_eq_true _ (decideSlot sl) h

theorem watchesSound_of {s : State} (h : @decide s.WatchesSound (decideWatches s) = true) : s.WatchesSound :=
  @of_decide_eq_true _ (decideWatches s) h

theorem reportsExact_of {s : State} (h : @decide s.ReportsExact (decideReports s) = true) : s.ReportsExact :=
  @of_decide_eq_true _ (decideReports s) h

theorem capturesSound_of {s : State} (h : @decide s.CapturesSound (decideCaptures s) = true) : s.CapturesSound :=
  @of_decide_eq_true _ (decideCaptures s) h

/-- The empty queue of StepRunsFront. -/
theorem witness_StepRunsFront : State.reset.pending = [] := rfl

/-- The LOAD record of chapter 10: RANGE, offset 4, width 8, low 0x10, high 0x2F, capture with pre 64 and post 200. -/
def record12 : CommandRecord :=
  { record 0x02 12 with
    test := 1, sense := 2, fieldOffset := 4, fieldWidth := 8, low := 0x10, high := 0x2F, skip := 3, options := 2,
    pre := 64, post := 200 }

theorem witness_LoadFields :
    (record12.config.map fun c => (c.mask, c.low, c.high, c.pre)) = some (0, 0x10, 0x2F, 64) ∧
    { record12 with skip := 16777215, pre := 1024, fieldOffset := 31, fieldWidth := 1, low := 1, high := 1 }.config ≠
      none ∧
    { record12 with skip := 16777216 }.config = none ∧ { record12 with pre := 1025 }.config = none ∧
    { record12 with fieldWidth := 29 }.config = none ∧ { record12 with high := 256 }.config = none := by decide +kernel

theorem chainsSound_enabled : enabled.ChainsSound := chainsSound_of_lower (by decide +kernel)

theorem chainsSound_chain (r : CommandRecord) : (executing chain r).ChainsSound := by
  have h : chain.ChainsSound := chainsSound_of_lower (by decide +kernel)
  exact h

/-- Each clause of LoadChecked: a LIVE watch; a record out of range; itself and a FREE watch as predecessor; a loop; and an
accepted record. -/
theorem witness_LoadChecked :
    (∀ r ∈ [{ record12 with watchId := 1 }, { record 2 1 with test := 2 }, { record 2 1 with predecessor := 1 },
        { record 2 1 with predecessor := 4 }, { record 2 1 with predecessor := 3 }, { record 2 5 with predecessor := 3 }],
      (executing chain r).Dispatched .load (current r) ∧ (executing chain r).eng.begun = false ∧
      (watchOf r.watchId).isSome = true ∧ (executing chain r).WatchesSound ∧ (executing chain r).ChainsSound) ∧
    (watchOf { record 2 6 with test := 2 }.watchId = some 6 ∧
      ((chain.setWatch 6 (liveWatch onBit0 .unknown)).watch 6).state = .live) ∧
    { record 2 1 with test := 2 }.config = none ∧
    (({ record 2 1 with predecessor := 1 } : CommandRecord).config.map fun (c : WatchConfig) => c.predecessor) =
      some (some 1) ∧
    (chain.watch 4).state = .free ∧ (∃ n, predecessorChain chain.eng.watches n 3 = some 1) ∧
    (¬ ∃ n, n < 4 ∧ predecessorChain chain.eng.watches n 3 = some 5) := by
  refine ⟨fun r hr => ⟨?_, rfl, ?_, ?_, chainsSound_chain r⟩, ?_, ?_, ?_, ?_, ⟨2, ?_⟩, ?_⟩
  · revert r; decide +kernel
  · revert r; decide +kernel
  · exact watchesSound_of (s := chain) (by decide +kernel)
  all_goals decide +kernel

/-- The part with watch 2 in a state, and a watch command of a kind that names watch 2 dispatched. -/
def commanded (kind : Byte) (w : Watch) : State := executing (enabled.setWatch 2 w) (record kind 2)

/-- A watch command of a kind is dispatched to watch 2. -/
abbrev Commanded (s : State) (k : CommandKind) (kind : Byte) : Prop :=
  s.Dispatched k (current (record kind 2)) ∧ s.eng.begun = false ∧ watchOf (record kind 2).watchId = some 2

theorem witness_ArmTaken :
    (Commanded (commanded 3 .freeContext) .arm 3 ∧ ((commanded 3 .freeContext).watch 2).state ≠ .idle) ∧
    (Commanded (commanded 3 (idleWatch onBit0)) .arm 3 ∧ ((commanded 3 (idleWatch onBit0)).watch 2).state = .idle ∧
      ((commanded 3 (idleWatch onBit0)).watch 2).config.predecessor = none) ∧
    ((commanded 3 (idleWatch { onBit0 with predecessor := some 1 })).watch 2).config.predecessor ≠ none := by
  decide +kernel

theorem witness_DisarmTaken :
    (Commanded (commanded 4 (idleWatch onBit0)) .disarm 4 ∧ ((commanded 4 (idleWatch onBit0)).watch 2).state = .idle) ∧
    (Commanded (commanded 4 (liveWatch onBit0 .unknown)) .disarm 4 ∧
      ((commanded 4 (liveWatch onBit0 .unknown)).watch 2).state = .live) := by decide +kernel

/-- FreeTaken: a watch that is not IDLE, an IDLE one that watch 3 names, and an IDLE one that none names. -/
theorem witness_FreeTaken :
    (Commanded (commanded 5 .freeContext) .free 5 ∧ ((commanded 5 .freeContext).watch 2).state ≠ .idle) ∧
    (Commanded (executing chain (record 5 2)) .free 5 ∧ (chain.watch 2).state = .idle ∧
      (chain.watch 3).state ≠ .free ∧ (chain.watch 3).config.predecessor = some 2) ∧
    (Commanded (commanded 5 (idleWatch onBit0)) .free 5 ∧
      ∀ v, ((commanded 5 (idleWatch onBit0)).watch v).config.predecessor ≠ some 2) := by decide +kernel

/-- SnapshotTaken: a watch with no window timer, and one whose expiry is the tick of the take. -/
theorem witness_SnapshotTaken :
    (Commanded (commanded 6 .freeContext) .snapshot 6 ∧ (commanded 6 .freeContext).cmd.snapshot = none ∧
      ((commanded 6 .freeContext).watch 2).windowExpiry = none) ∧
    (Commanded ((commanded 6 watch40).withTick 5200) .snapshot 6 ∧
      ((commanded 6 watch40).watch 2).windowExpiry = some 5200) := by decide +kernel

/-- A LOAD of watch 1, dispatched in the part right after its enable. -/
def loading : State := executing enabled (record 2 1)

theorem witness_ConfigurationChangedBy :
    ∃ t, exec .load loading = .next t ∧ (t.watch 1).config ≠ (loading.watch 1).config :=
  ⟨after .load loading, rfl, by decide +kernel⟩

/-- The sample 812 presented, watch 40 LIVE with capture, and a buffer in the cache. -/
def firing : State :=
  presented (withBuffers (enabled.setWatch 40 { watch40 with expiryRaised := false }) [buffer 0x41]) sample812

theorem witness_WatchTableStaysSound :
    (firing.WatchesSound ∧ firing.ReportsExact) ∧
      ∃ t, exec (.sampleEvaluation .whole) firing = .next t ∧ (t.watch 40).state = .done :=
  ⟨⟨watchesSound_of (by decide +kernel), reportsExact_of (by decide +kernel)⟩,
    after (.sampleEvaluation .whole) firing, rfl, by decide +kernel⟩

theorem witness_ChainsStaySound :
    (executing chain { record 2 5 with predecessor := 3 }).WatchesSound ∧
    (executing chain { record 2 5 with predecessor := 3 }).ChainsSound ∧
    ∃ t, exec .load (executing chain { record 2 5 with predecessor := 3 }) = .next t ∧
      (t.watch 5).config.predecessor = some 3 :=
  ⟨watchesSound_of (s := chain) (by decide +kernel), chainsSound_chain _,
    after .load (executing chain { record 2 5 with predecessor := 3 }), rfl, by decide +kernel⟩

theorem witness_MatchTest :
    onBit0.test = .masked ∧ onBit0.testResult 1 = true ∧ onBit0.testResult 2 = false ∧
    ((record 2 1).config.map fun c => c.test) = some .masked := by decide +kernel

/-- A field of the whole word, tested at the ends of its range. -/
def wholeField : WatchConfig :=
  { WatchConfig.freeValues with test := .range, fieldWidth := 32, low := 1, high := 4294967294 }

theorem witness_RangeTest :
    wholeField.test = .range ∧ wholeField.testResult 0 = false ∧ wholeField.testResult 1 = true ∧
    wholeField.testResult 0xFFFFFFFE = true ∧ wholeField.testResult 0xFFFFFFFF = false ∧
    (record12.config.map fun c => c.test) = some .range := by decide +kernel

/-- WatchEvaluation: a watch not LIVE; no occurrence; an occurrence that is skipped; a REPEAT fire; a SINGLE fire. -/
theorem witness_WatchEvaluation :
    (idleWatch onBit0).state ≠ .live ∧ (watch7 2).state = .live ∧ (watch7 2).occurs 0 = false ∧
    ((watch7 2).occurs 1 = true ∧ (watch7 2).config.sense = .enter ∧ (watch7 2).previous = .isFalse) ∧
    ((watch7 0).fires 1 = true ∧ (watch7 0).config.mode = .repeated) ∧
    (watch40.fires 1 = true ∧ watch40.config.mode = .single) := by decide +kernel

/-- SkipCounting: an occurrence skipped, one that fires, none; a watch armed with skip 2; and three occurrences. -/
theorem witness_SkipCounting :
    ((watch7 2).state = .live ∧ (watch7 2).occurs 1 = true ∧ (watch7 0).occurs 1 = true ∧ (watch7 2).occurs 0 = false) ∧
    ((watch7 2).skipRemaining = (watch7 2).config.skip ∧ (watch7 2).fireCount = 0) ∧
    ((watch7 2).occurrencesIn ([1, 0, 1].map fun x => { number := x, data := BitVec.ofNat 32 x.toNat, arrivalTick := 0 })
      = 2) ∧
    ((watch7 2).occurrencesIn
      ([1, 0, 1, 0, 1].map fun x => { number := x, data := BitVec.ofNat 32 x.toNat, arrivalTick := 0 }) = 3) := by
  decide +kernel

/-- Watches 40 and 41 fire on sample 812 with capture, with one buffer in the cache. -/
def contested : State :=
  presented (withBuffers ((enabled.setWatch 40 watch40).setWatch 41 watch40) [buffer 0x41]) sample812

/-- EvaluationTaken: a capture accepted, one of two accepted, and none; and an evaluation that has begun. -/
theorem witness_EvaluationTaken :
    (firing.ctl.device = .enabled ∧ firing.eng.presented = some sample812 ∧ firing.eng.noticeWaiting = false) ∧
    (contested.requesters sample812 = [40, 41] ∧ contested.freeSlots = [0, 1, 2, 3] ∧ contested.cap.cache.length = 1 ∧
      contested.haltTaken sample812 = false) ∧
    (withBuffers firing []).cap.cache.length = 0 ∧
    ((after (.sampleEvaluation .begins) firing).eng.begun = true ∧
      (after (.sampleEvaluation .begins) firing).eng.presented ≠ none) ∧
    ∃ t, exec .eventChoice (after (.sampleEvaluation .begins) firing) = .next t :=
  ⟨by decide +kernel, by decide +kernel, by decide +kernel, by decide +kernel, _, rfl⟩

/-- CaptureRequested: the lower of two watches takes the last buffer; none takes an empty cache; and a halt taken with a
capture of its own and with a slot FILLING. -/
theorem witness_CaptureRequested :
    let halting := contested.setWatch 41 { watch40 with config := { watch40.config with halt := true } }
    (contested.ctl.device = .enabled ∧ contested.eng.presented = some sample812 ∧ contested.eng.noticeWaiting = false) ∧
    ((contested.requesters sample812).zip contested.freeSlots).zip contested.cap.cache = [((40, 0), buffer 0x41)] ∧
    (withBuffers contested []).cap.cache = [] ∧
    (halting.haltTaken sample812 = true ∧ halting.requesters sample812 = [40, 41] ∧
      ((halting.setSlot 3 slot414).slot 3).state = .filling) := by decide +kernel

/-- WindowTimers: the tick of the expiry, the tick before it, and a raised expiry. -/
theorem witness_WindowTimers :
    let s := enabled.setWatch 40 { watch40 with expiryRaised := false }
    ((s.watch 40).state = .live ∧ (s.watch 40).windowExpiry = some 5200 ∧
      ((s.withTick 5200).tick - 5200).toNat < 2 ^ 47) ∧
    ¬ ((s.withTick 5199).tick - 5200).toNat < 2 ^ 47 ∧
    (((enabled.setWatch 40 watch40).watch 40).expiryRaised = true ∧ enabled.eng.begun = false) := by decide +kernel

theorem witness_StartOfRunTaken :
    let s := firing.withEng { firing.eng with noticeWaiting := true }
    (s.ctl.device = .enabled ∧ s.eng.noticeWaiting = true ∧ s.eng.begun = false ∧ (s.watch 40).state = .live) ∧
    ((after (.cqTailWrite 16) s).ctl.device = .faulted ∧ (after (.cqTailWrite 16) s).eng.noticeWaiting = true) := by
  decide +kernel

/-- TickCounter: no sample presented, the pin, a soft reset with no entry ACTIVE, and a response limit that is reached while RESETTING. -/
theorem witness_TickCounter :
    (enabled.resetAsserted = false ∧ enabled.eng.presented = none) ∧
    (after (.resetPinAsserted 16) enabled).resetAsserted = true ∧
    (enabled.pinActs (.resetPinAsserted 16) ∧ ∃ t, exec (.resetPinAsserted 16) enabled = .next t) ∧
    (writesReset (.softReset 2) ∧ ∃ t, exec (.softReset 2) enabled = .next t ∧ t.ctl.device = .disabled) ∧
    (let s := ((inDevice (withActive enabled 1 .command) .resetting).withTick 1000)
     s.ctl.device = .resetting ∧ s.entry 1 = .active .command 64 (some 1000) ∧ s.tick = 1000) :=
  ⟨⟨rfl, by decide +kernel⟩, rfl, ⟨.inl ⟨16, rfl, by decide⟩, _, rfl⟩, ⟨⟨2, rfl, by decide⟩, _, rfl, by decide +kernel⟩, by decide +kernel⟩

/-- A part is sound in its runs, one condition after another. -/
theorem runSound_of {s : State} {p : Option PresentedSample} (hp : s.eng.presented = p)
    (hq : ∀ q ∈ p, (s.tick - q.arrivalTick).toNat < 8 ∧ s.acq.newest = some q.number ∧
      s.acq.entryOf q.number = { data := q.data, tickLow := q.arrivalTick.setWidth 32 })
    (hi : s.acq.pendingHalt = none ∧ s.acq.heldStart = false ∧ s.ctl.device = .enabled ∧ s.eng.begun = false) :
    s.RunSound :=
  ⟨fun h => absurd hi.1 h, fun h => absurd (h.symm.trans hi.2.1) (by decide), fun h => absurd hi.2.2.1 h,
    fun q h => hq q (hp.symm.trans h), fun h => absurd (h.symm.trans hi.2.2.2) (by decide)⟩

/-- The part with one sample, number 0, accepted at tick 100 and evaluated. -/
def oneSample : State :=
  after (.sampleEvaluation .whole)
    (after (.sampleArrival 3) ((enabled.withAcq { enabled.acq with state := .running }).withTick 100))

/-- SampleArrivalTaken: an empty ring, a full one, and an edge in IDLE; the 7th and the 8th period of a presented sample, with
a notice that waits; and a run whose last edge was 8 periods ago. -/
theorem witness_SampleArrivalTaken :
    (let s := enabled.withAcq { enabled.acq with state := .running }
     s.RingSound ∧ s.ctl.device = .enabled ∧ s.acq.state = .running ∧ s.eng.presented = none ∧ s.acq.heldCount < 2048) ∧
    ((running414 11056).RingSound ∧ (running414 11056).acq.heldCount = 2048 ∧
      (running414 11056).eng.presented = none) ∧ enabled.acq.state = .idle ∧
    (let s := firing.withEng { firing.eng with noticeWaiting := true }
     s.resetAsserted = false ∧ s.ctl.device = .enabled ∧ s.eng.presented = some sample812 ∧ s.eng.begun = false ∧
     ((s.withTick 5206).tick + 1 - sample812.arrivalTick).toNat < 8 ∧
     8 ≤ ((s.withTick 5207).tick + 1 - sample812.arrivalTick).toNat) ∧
    ((oneSample.withTick 108).RunSound ∧ oneSample.ctl.device = .enabled ∧ oneSample.acq.state = .running ∧
      oneSample.acq.newest = some 0 ∧
      8 ≤ ((oneSample.withTick 108).tick.setWidth 32 - ((oneSample.withTick 108).acq.entryOf 0).tickLow).toNat) :=
  ⟨by decide +kernel, by decide +kernel, by decide +kernel, by decide +kernel,
    runSound_of (p := none) (by decide +kernel) (by simp) (by decide +kernel), by decide +kernel⟩

/-- A pending ACQ_HALT, and a START held behind it. -/
def haltPending : State := enabled.withAcq { enabled.acq with pendingHalt := some { watch := 1, sample := 5 } }

def startHeld : State := after .start (executing haltPending (record 7 0))

/-- StartTaken: a START in RUNNING; one that arrives ready, and one held and ready; and one held behind an ACQ_HALT. -/
theorem witness_StartTaken :
    let s := executing enabled (record 7 0)
    let held := s.withAcq { s.acq with heldStart := true }
    (s.withAcq { s.acq with state := .running }).Dispatched .start (current (record 7 0)) ∧
    (s.ctl.device = .enabled ∧ s.acq.state = .idle ∧ s.Dispatched .start (current (record 7 0)) ∧
      s.eng.presented = none ∧ (∀ i, (s.slot i).state ≠ .filling) ∧ s.acq.pendingHalt = none) ∧
    (held.startReady = true ∧ held.Dispatched .start (current (record 7 0))) ∧
    (startHeld.acq.heldStart = true ∧ startHeld.startReady = false) := by decide +kernel

/-- R60 and R61: a START that arrives with its conditions met is taken in the same event, and so it is as START_TAKEN. -/
theorem test_start_taken_at_arrival :
    let s := executing enabled (record 7 0)
    (after .start s).acq.state = .running ∧ heldStatus (after .start s) = some .ok ∧
    after .startTaken s = after .start s ∧ after .startTaken startHeld = startHeld := by decide +kernel

/-- 3.11, R65: the START is taken at the choice of the ACQ_HALT, before the write of its event is even granted. -/
theorem test_start_taken_at_choice :
    let t := after .eventChoice startHeld
    startHeld.acq.state = .idle ∧ t.acq.state = .running ∧ t.acq.heldStart = false ∧ t.eng.noticeWaiting = true ∧
    heldStatus t = some .ok ∧ t.evt.request = .standing := by decide +kernel

/-- R60 and R69: a START held behind slot 0 is taken at the answer that ends its FILLING. -/
theorem test_start_taken_at_exit :
    let s := running414 11056
    let held := after .start (executing (s.withAcq { s.acq with state := .idle }) (record 7 0))
    let t := after (.burstWriteResponse (errorFor 5)) held
    (held.acq.heldStart = true ∧ held.acq.state = .idle) ∧ (t.slot 0).state ≠ .filling ∧ t.acq.state = .running ∧
    t.acq.heldCount = 0 := by decide +kernel

/-- R60: a START held behind an outstanding sample is taken at its close. -/
theorem test_start_taken_at_close :
    let s := presented enabled sample812
    let held := after .start (executing (s.withAcq { s.acq with state := .idle }) (record 7 0))
    held.acq.heldStart = true ∧ (after (.sampleEvaluation .whole) held).acq.state = .running := by decide +kernel

/-- The part of 4.14 with a STOP dispatched and `n` the sample counter. -/
def stopping414 (n : SampleNo) : State := executing (running414 n) (record 8 0)

/-- StopTaken: a slot cut at the newest sample, one with nothing left to copy, one whose window end has arrived, and a run
with no sample. -/
theorem witness_StopTaken :
    ((stopping414 9009).Dispatched .stop (current (record 8 0)) ∧ (stopping414 9009).acq.state = .running ∧
      (stopping414 9009).acq.newest = some 9008 ∧ slot414.pos slot414.nextToCopy ≤ slot414.pos 9008) ∧
    ((stopping414 9008).acq.newest = some 9007 ∧ slot414.pos 9007 < slot414.pos slot414.nextToCopy) ∧
    ((stopping414 14001).acq.newest = some 14000 ∧ ¬ slot414.pos 14000 < slot414.pos slot414.windowEnd) ∧
    (executing enabled (record 8 0)).acq.state = .idle ∧ enabled.acq.newest = none := by decide +kernel

theorem witness_AcquisitionStaysSound :
    (let s := enabled.withAcq { enabled.acq with state := .running }
     s.RingSound ∧ ∃ t, exec (.sampleArrival 3) s = .next t ∧ t.acq.heldCount = 1) :=
  ⟨by decide +kernel, _, rfl, by decide +kernel⟩

theorem commandSound_startHeld : startHeld.CommandSound := by
  refine ⟨by decide +kernel, by decide +kernel, by decide +kernel, by decide +kernel, by decide +kernel, fun c hc => ?_,
    by decide +kernel, by decide +kernel⟩
  have : startHeld.cmd.current = some (current (record 7 0)) := by decide +kernel
  obtain rfl := Option.some.inj (this.symm.trans hc)
  decide +kernel

/-- AcquisitionStaysSound: a START held behind a pending ACQ_HALT, which the choice lets be taken. -/
theorem witness_AcquisitionStaysSound_start :
    startHeld.RunSound ∧ startHeld.CommandSound ∧ startHeld.NoStartLeft ∧
    ∃ t, exec .eventChoice startHeld = .next t ∧ t.acq.heldStart = false := by
  have out : startHeld.eng.presented = none := by decide +kernel
  exact ⟨⟨by decide +kernel, by decide +kernel, by decide +kernel, by simp [out], by decide +kernel⟩,
    commandSound_startHeld, by decide +kernel, _, rfl, by decide +kernel⟩

theorem witness_AcquisitionStaysSound_run : (enabled.withAcq { enabled.acq with state := .running }).RunSound :=
  runSound_of (p := none) (by decide +kernel) (by simp) (by decide +kernel)

/-- CaptureWindow: pre 1024 with 2048 entries above the floor, a buffer of one entry, and a run-end mark at the trigger. -/
theorem witness_CaptureWindow :
    (buffer 0x41).Legal ∧ Descriptor.Legal { buffer 1 with capacity := 1 } ∧
    (1024 : Nat) ≤ ((11055 : SampleNo) - (running414 11056).acq.floor).toNat ∧
    (11055 - (11055 - BitVec.ofNat 48 1024) : SampleNo).toNat <
      (11055 + BitVec.ofNat 48 65535 - (11055 - BitVec.ofNat 48 1024) : SampleNo).toNat := by decide +kernel

theorem witness_OverrunByArrival :
    (running414 11056).ctl.device = .enabled ∧ (running414 11056).acq.state = .running ∧
    (running414 11056).eng.presented = none ∧ (∃ t, exec (.sampleArrival 0) (running414 11056) = .next t) ∧
    (slot414.pos (11056 - 2048) ≤ slot414.pos slot414.windowEnd ∧
      slot414.pos slot414.nextToCopy ≤ slot414.pos (11056 - 2048)) ∧
    ¬ slot414.pos slot414.nextToCopy ≤ slot414.pos (11055 - 2048) := by
  refine ⟨?_, ?_, ?_, ⟨_, rfl⟩, ?_⟩ <;> decide +kernel

/-- What a slot asks for and keeps is sound in a part that has no sample presented. -/
theorem copiesSound_of {s : State}
    (hf : ∀ i, (s.slot i).state = .filling →
      (1 ≤ (s.slot i).pos s.acq.sampleCounter ∧
        (s.slot i).pos (s.slot i).nextToCopy ≤ (s.slot i).pos s.acq.sampleCounter ∧
        (s.slot i).pos s.acq.sampleCounter ≤ (s.slot i).pos (s.slot i).nextToCopy + s.acq.heldCount) ∧
      (s.slot i).flushing = false ∧ s.ctl.device = .enabled)
    (hr : ∀ i, (s.slot i).requestStanding = true → 1 ≤ (s.slot i).runTo s.acq.newest)
    (hm : ∀ i, ¬ (s.slot i).MustAsk s.acq.newest) (hp : s.eng.presented = none) : s.CopiesSound :=
  ⟨fun i h => ⟨(hf i h).1, fun g => absurd (g.symm.trans (hf i h).2.1) (by decide), by simp [(hf i h).2.2]⟩, hr,
    fun _ => hm, fun h => absurd hp h⟩

theorem copiesSound_running414 : (running414 11056).CopiesSound :=
  copiesSound_of (by decide +kernel) (by decide +kernel) (by decide +kernel) (by decide +kernel)

/-- The part of 4.14 with the window end at the last entry present. -/
def lastBurst : State := (running414 11056).setSlot 0 { slot414 with windowEnd := 9010 }

/-- BurstGranted: a burst with entries left, and one that ends the window. -/
theorem witness_BurstGranted :
    (let s := running414 11056
     s.ctl.device = .enabled ∧ s.nextRequester = some (.slot 0) ∧ s.port.freeTag = some 0 ∧ (s.slot 0).Sound ∧
     (s.slot 0).pos (s.slot 0).nextToCopy + min 16 ((s.slot 0).runTo s.acq.newest) ≤
       (s.slot 0).pos (s.slot 0).windowEnd ∧ s.CopiesSound) ∧
    (lastBurst.nextRequester = some (.slot 0) ∧ (lastBurst.slot 0).Sound ∧
     (lastBurst.slot 0).pos (lastBurst.slot 0).nextToCopy + min 16 ((lastBurst.slot 0).runTo lastBurst.acq.newest) =
       (lastBurst.slot 0).pos (lastBurst.slot 0).windowEnd + 1) :=
  ⟨⟨by decide +kernel, by decide +kernel, by decide +kernel, slotSound_of (by decide +kernel), by decide +kernel,
      copiesSound_running414⟩,
    by decide +kernel, slotSound_of (by decide +kernel), by decide +kernel⟩

/-- BurstAnswered: the only burst of a slot, FILLING and CLOSING; the same in FAULTED; and in STOPPING with another entry
ACTIVE. -/
theorem witness_BurstAnswered :
    let s := running414 11056
    s.ctl.device = .enabled ∧ s.entry (okFor 5).tag = .active (.slot 0) 64 (some 1000) ∧ (s.slot 0).state = .filling ∧
    (s.slot 0).bursts = [] ++ ({ count := 16, answer := .waiting, tag := 5 } : BurstRecord) :: [] ∧
    ((s.setSlot 0 { slot414 with state := .closing }).slot 0).state = .closing ∧
    (after (.cqTailWrite 16) s).ctl.device = .faulted ∧
    (let u := after (.disable 0) (withActive s 1 .command)
     u.ctl.device = .stopping ∧ u.entry 5 = .active (.slot 0) 64 (some 1000) ∧ (u.entry 1).isActive = true) := by
  decide +kernel

/-- CancelTaken: no target, and slot 0 FILLING as a target of ALL. -/
theorem witness_CancelTaken :
    let r := { record 9 0 with slot := 0xFF }
    ((executing enabled r).Dispatched .cancel (current r) ∧ slotsOf r.slot = some [0, 1, 2, 3] ∧
      enabled.cap.cancelling = none ∧ ∀ i, (enabled.slot i).state = .free) ∧
    ((executing (running414 9009) r).Dispatched .cancel (current r) ∧
      ((executing (running414 9009) r).slot 0).state = .filling) := by decide +kernel

/-- Slot 0 in POSTING, its capture complete. -/
def posting : State :=
  enabled.setSlot 0
    { slot414 with
      state := .posting, requestStanding := false, status := some .complete, bursts := [], outstanding := 0,
      leading := 32 }

theorem requestsOwned_posting : posting.RequestsOwned := by
  have owned : ∀ i : SlotId, posting.port.activeCount (.slot i) = (posting.slot i).outstanding := by decide +kernel
  have on : posting.ctl.device = .enabled := by decide +kernel
  refine ⟨⟨?_, ?_, ?_, ?_, owned⟩, ?_, ?_, ?_, ?_, ?_, ?_⟩
  · decide +kernel
  · decide +kernel
  · decide +kernel
  · decide +kernel
  · simp [on]
  · simp [on]
  · decide +kernel
  · simp [on]
  · decide +kernel
  · decide +kernel

/-- The content of the event in flight after an event choice. -/
def contentChosen (s : State) : Option EventContent := (after .eventChoice s).evt.inFlight.map fun f => f.content

/-- A choice that puts an event of some content in flight. -/
theorem chosen_of {s : State} {c : EventContent} (hn : exec .eventChoice s = .next (after .eventChoice s))
    (h : contentChosen s = some c) :
    ∃ t f, exec .eventChoice s = .next t ∧ t.evt.inFlight = some f ∧ f.content = c := by
  obtain ⟨f, hf, hc⟩ := Option.map_eq_some_iff.mp h
  exact ⟨_, f, hn, hf, hc⟩

/-- The CAPTURE_DONE of `posting`. -/
def done414 : CaptureDone :=
  { slot := 0, watch := 20, bufferTag := 0x41, status := .complete, trigger := 10000, firstSample := 8976, entryCount := 32 }

theorem chosen_posting :
    ∃ t f d, exec .eventChoice posting = .next t ∧ t.evt.inFlight = some f ∧ f.content = .captureDone d := by
  obtain ⟨t, f, h⟩ := chosen_of (s := posting) (c := .captureDone done414) rfl (by decide +kernel)
  exact ⟨t, f, _, h⟩

theorem witness_CaptureDoneAfterAnswers :
    posting.CapturesSound ∧ posting.RequestsOwned ∧ posting.evt.inFlight = none ∧
    ∃ t f d, exec .eventChoice posting = .next t ∧ t.evt.inFlight = some f ∧ f.content = .captureDone d :=
  ⟨capturesSound_of (by decide +kernel), requestsOwned_posting, by decide +kernel, chosen_posting⟩

theorem supplySound_of {s : State} (h : s.fetch.batch = none) (hl : s.cap.cache.length ≤ 4 ∧ s.fetch.rejections = [])
    (hf : s.fetch.fetch ≠ .reading) : s.SupplySound :=
  ⟨hl.1, by simp [hl.2], by simp [h, hf], by simp [h], fun _ => hl.2⟩

theorem witness_CaptureUnitStaysSound :
    ((running414 11056).CapturesSound ∧ ∃ t, exec (.sampleArrival 0) (running414 11056) = .next t) ∧
    (enabled.SupplySound ∧ ∃ t, exec (.bqTailWrite 6) enabled = .next t ∧ t.fetch.fetch = .requested) ∧
    ((running414 11056).RingSound ∧ (running414 11056).RunSound ∧ (running414 11056).CopiesSound) :=
  ⟨⟨capturesSound_of (by decide +kernel), after (.sampleArrival 0) (running414 11056), rfl⟩,
    ⟨supplySound_of (by decide +kernel) (by decide +kernel) (by decide +kernel), after (.bqTailWrite 6) enabled, rfl,
      by decide +kernel⟩,
    by decide +kernel, runSound_of (p := none) (by decide +kernel) (by simp) (by decide +kernel), copiesSound_running414⟩

/-- DescriptorChecks: two reads that differ in the reserved byte of descriptor 0 only. -/
theorem witness_DescriptorChecks :
    (∀ j, j < 128 → ¬ (88 ≤ j ∧ j < 96) →
      (BitVec.ofNat 512 (2 ^ 64)).getLsbD (128 * 0 + j) = (BitVec.ofNat 512 (2 ^ 64 + 2 ^ 88)).getLsbD (128 * 0 + j)) ∧
    (buffer 1).reject = none ∧ { buffer 1 with capacity := 0 }.reject = some .zeroCapacity ∧
    { buffer 1 with capacity := 1048577 }.reject = some .overCapacity ∧
    { buffer 1 with address := 8 }.reject = some .misaligned := by decide +kernel

theorem witness_BqReadAnswered :
    reading57.ctl.device = .enabled ∧ reading57.entry (okFor 3).tag = .active .fetcher 64 (some 1000) ∧
    reading57.fetch.batch = some { first := 0, length := 4 } ∧
    ((inDevice reading57 .faulted).ctl.device = .faulted ∧
      (inDevice reading57 .faulted).entry 3 = .active .fetcher 64 (some 1000)) ∧
    PassageMet reading57 3 .fetcher := by decide +kernel

/-- `posting` while a CANCEL waits for some targets. -/
def cancellingPart (targets : List SlotId) : State :=
  executing (posting.withCap { posting.cap with cancelling := some { targets := targets, status := .ok } }) (record 9 0)

/-- CaptureDoneChosen: with no CANCEL (chosen_posting), with one whose only target it is, and with one more target. -/
theorem witness_CaptureDoneChosen :
    contentChosen posting = some (.captureDone done414) ∧ posting.cap.cancelling = none ∧
    contentChosen (cancellingPart [0]) = some (.captureDone done414) ∧
    contentChosen (cancellingPart [0, 1]) = some (.captureDone done414) ∧ (cancellingPart [0]).evt.inFlight = none ∧
    posting.evt.inFlight = none ∧ kindOf (record 9 0).kind = some .cancel := by decide +kernel

/-- The part with one item at each source but the Capture Slots and the pending ACQ_HALT. -/
def completionHeld : State := enabled.withCmd { enabled.cmd with held := some cmdDone, state := .posting }

def rejectionListed : State :=
  enabled.withFetch { enabled.fetch with rejections := [{ tag := 1, reason := .misaligned, bqIndex := 2 }] }

def reportListed : State :=
  (enabled.setWatch 3 (doneWatch onBit0)).withEng
    { (enabled.setWatch 3 (doneWatch onBit0)).eng with reportList := [3] }

/-- ChoiceAtSource: each of the four sources, chosen. -/
theorem witness_ChoiceAtSource :
    contentChosen haltPending = some (.acqHalt { watch := 1, sample := 5 }) ∧
    contentChosen completionHeld = some (.cmdDone cmdDone) ∧
    contentChosen rejectionListed = some (.bufferReject { tag := 1, reason := .misaligned, bqIndex := 2 }) ∧
    contentChosen reportListed = some (.watchReport ((doneWatch onBit0).report 3)) ∧
    enabled.evt.inFlight = none := by decide +kernel

/-- ChoiceByRank: a part with nothing to report, and each of the five sources as the first in rank. -/
theorem witness_ChoiceByRank :
    (∀ s ∈ [enabled, posting, haltPending, completionHeld, rejectionListed, reportListed],
      s.ctl.device = .enabled ∧ s.evt.inFlight = none ∧ s.evt.fill < s.evt.size - 1 ∧ s.eng.begun = false ∧
      ∀ i, (s.slot i).state = .posting → (s.slot i).status ≠ none) ∧
    ((posting.slot 0).state = .posting ∧ (posting.slot 0).status = some .complete) := by decide +kernel

/-- EqWriteAnswered: a CMD_DONE and another event in flight, in ENABLED and in FAULTED. -/
theorem witness_EqWriteAnswered :
    let s := writing (enabled.withCmd { enabled.cmd with state := .posting }) (.cmdDone cmdDone)
    let u := writing enabled (.acqHalt { watch := 1, sample := 5 })
    (s.ctl.device = .enabled ∧ s.entry (okFor 2).tag = .active .writer 64 (some 1000) ∧
      s.evt.carriesCmdDone = true ∧ s.cmd.state = .posting) ∧
    (u.entry (errorFor 2).tag = .active .writer 64 (some 1000) ∧ u.evt.carriesCmdDone = false) ∧
    ((inDevice u .faulted).ctl.device = .faulted ∧
      (inDevice u .faulted).entry 2 = .active .writer 64 (some 1000)) ∧
    PassageMet u 2 .writer := by decide +kernel

/-- EqHeadWritten and HeadWriteMeetsResponse: size 32, tail 10, head 4, so the fill is 6; the values 4, 10 and 11. -/
def eqPart : State :=
  writing (enabled.withEvt { enabled.evt with tail := 10, head := 4 }) (.acqHalt { watch := 1, sample := 5 })

theorem witness_EqHeadWritten :
    eqPart.resetAsserted = false ∧ eqPart.ctl.device = .enabled ∧
    ((32 : Word).toNat ≥ eqPart.evt.size ∧ eqPart.evt.fill < ringDistance eqPart.evt.size 11 eqPart.evt.tail) ∧
    (ringDistance eqPart.evt.size 4 eqPart.evt.tail ≤ eqPart.evt.fill ∧ (4 : Word).toNat < eqPart.evt.size) ∧
    starting.ctl.device ≠ .enabled := by decide +kernel

theorem eventSlotReleased_eqPart : eqPart.EventSlotReleased := by
  refine ⟨by decide +kernel, fun e he => ?_⟩
  have h : eqPart.evt.inFlight = some
      { index := 10, phase := true, eventTick := 0, content := .acqHalt { watch := 1, sample := 5 } } := by decide +kernel
  cases Option.some.inj (he.symm.trans h)
  decide +kernel

theorem witness_HeadWriteMeetsResponse :
    eqPart.resetAsserted = false ∧ eqPart.ctl.device = .enabled ∧
    eqPart.entry (okFor 2).tag = .active .writer 64 (some 1000) ∧ (okFor 2).answer = .ok ∧ eqPart.EventSlotReleased ∧
    eqPart.evt.inFlight ≠ none ∧ ringDistance eqPart.evt.size (4 : Word).toNat eqPart.evt.tail ≤ eqPart.evt.fill ∧
    (11 : Word).toNat = (eqPart.evt.tail + 1) % eqPart.evt.size :=
  ⟨rfl, by decide +kernel, by decide +kernel, rfl, eventSlotReleased_eqPart, by decide +kernel, by decide +kernel,
    by decide +kernel⟩

/-- HoldoffExpiryTaken: the tick of the expiry and the tick before it; and a fault while the timer runs. -/
def holding : State := enabled.withEvt { enabled.evt with moderation := 1, holdoffTimer := some 1500 }

theorem witness_HoldoffExpiryTaken :
    (holding.ctl.device = .enabled ∧ holding.evt.holdoffTimer = some 1500 ∧
      ((holding.withTick 1500).tick - 1500).toNat < 2 ^ 47 ∧ holding.ModerationSound ∧
      ¬ ((holding.withTick 1499).tick - 1500).toNat < 2 ^ 47) ∧
    ∃ t, exec (.cqTailWrite 16) holding = .next t ∧ t.ctl.device = .faulted :=
  ⟨by decide +kernel, _, rfl, by decide +kernel⟩

theorem witness_InterruptWritten :
    enabled.resetAsserted = false ∧ ∃ t, exec (.interruptWrite 0x303) enabled = .next t := ⟨rfl, _, rfl⟩

theorem witness_IntnLevel :
    enabled.resetAsserted = false ∧ (after (.resetPinAsserted 16) enabled).resetAsserted = true ∧
    (enabled.withEvt { enabled.evt with
      interrupt := { events := true, fault := false, eventsMask := true, faultMask := false } }).intnHigh = false ∧
    (enabled.pinActs (.resetPinAsserted 16) ∧ ∃ t, exec (.resetPinAsserted 16) enabled = .next t) :=
  ⟨rfl, rfl, by decide +kernel, .inl ⟨16, rfl, by decide⟩, _, rfl⟩

theorem witness_RingIndicesStaySound :
    eqPart.IndicesInRange ∧ eqPart.EventSlotReleased ∧
    ∃ t, exec (.eqWriteResponse (okFor 2)) eqPart = .next t ∧ t.evt.tail = 11 :=
  ⟨by decide +kernel, eventSlotReleased_eqPart, _, rfl, by decide +kernel⟩

/-- TailsWritten: size 16 with 5 available from index 14; the values 2, 3, 4 and 16. -/
theorem witness_TailsWritten :
    let s := (enabled.withCmd { enabled.cmd with head := 14, tail := 3 }).withFetch
      { enabled.fetch with head := 14, tail := 3 }
    s.resetAsserted = false ∧ s.ctl.device = .enabled ∧ s.cmd.size ≤ (16 : Word).toNat ∧
    ringDistance s.cmd.size s.cmd.head (2 : Word).toNat < s.cmd.available ∧
    ringDistance s.cmd.size s.cmd.head (3 : Word).toNat = s.cmd.available ∧
    s.cmd.available < ringDistance s.cmd.size s.cmd.head (4 : Word).toNat ∧
    ringDistance s.fetch.size s.fetch.head (2 : Word).toNat < s.fetch.available ∧
    s.fetch.available < ringDistance s.fetch.size s.fetch.head (4 : Word).toNat ∧ starting.ctl.device ≠ .enabled := by
  decide +kernel

/-- The part with its CQ read granted tag 1. -/
def fetching : State :=
  (withActive enabled 1 .command).withCmd { enabled.cmd with tail := 1, state := .fetching, link := .outstanding }

/-- CqReadAnswered: the read in flight; records at each boundary of the common checks; and a NOP record. -/
theorem witness_CqReadAnswered :
    (fetching.ctl.device = .enabled ∧ fetching.entry (okFor 1).tag = .active .command 64 (some 1000) ∧
      fetching.cmd.state = .fetching ∧ fetching.cmd.current = none) ∧
    ((commandRecordOf 0).kind = 0 ∧ 0x09 < (commandRecordOf 0x0A).kind.toNat) ∧
    ((commandRecordOf 0x4003).kind = 3 ∧ 64 ≤ (commandRecordOf 0x4003).watchId.toNat ∧
      (commandRecordOf 0x3F03).watchId.toNat < 64) ∧
    ((commandRecordOf 0x0400000009).slot = 4 ∧ (commandRecordOf 0xFF00000009).slot = 0xFF) ∧
    WellFormed (.nop 1 0x01) = true ∧
    ((inDevice fetching .faulted).ctl.device = .faulted ∧
      (inDevice fetching .faulted).entry 1 = .active .command 64 (some 1000)) ∧
    PassageMet fetching 1 .command := by decide +kernel

theorem witness_SnapshotWriteAnswered :
    let r := record 6 2
    let s := executing (withActive enabled 1 .command) r
    s.Dispatched .snapshot (current r) ∧ s.entry (okFor 1).tag = .active .command 64 (some 1000) ∧
    ((inDevice s .faulted).ctl.device = .faulted ∧
      (inDevice s .faulted).entry 1 = .active .command 64 (some 1000)) ∧
    PassageMet s 1 .command := by decide +kernel

theorem commandSound_posting : posting.CommandSound := by
  refine ⟨by decide +kernel, by decide +kernel, by decide +kernel, by decide +kernel, by decide +kernel, fun c hc => ?_,
    by decide +kernel, by decide +kernel⟩
  have : posting.cmd.current = none := by decide +kernel
  rw [this] at hc
  cases hc

theorem witness_RequestsStayOwned :
    posting.CapturesSound ∧ posting.RequestsOwned ∧ posting.CommandSound ∧
    ∃ t, exec .eventChoice posting = .next t ∧ t.evt.request = .standing :=
  ⟨capturesSound_of (by decide +kernel), requestsOwned_posting, commandSound_posting, after .eventChoice posting, rfl,
    by decide +kernel⟩

/-- Two requesters with a standing request, the grant pointer at Slot 3. -/
def asking : State :=
  (enabled.withCmd { enabled.cmd with state := .fetching, link := .standing, tail := 1 }).withFetch
    { enabled.fetch with fetch := .requested, tail := 2 }

/-- GrantMade: the Command Unit first behind Slot 3; no requester; and no entry FREE. -/
theorem witness_GrantMade :
    (asking.ctl.device = .enabled ∧ asking.Eligible .command ∧ asking.entry 0 = .free ∧
      (asking.port.grantPointer = .control ∨ asking.port.grantPointer.distanceFrom .command ≤
        asking.port.grantPointer.distanceFrom .fetcher) ∧ ¬ asking.Eligible .control) ∧
    (¬ enabled.Eligible .command ∧ ¬ enabled.Eligible .control) ∧
    (let s := asking.withPort { asking.port with entries := Vector.replicate 8 (.stale 64 none) }
     ∀ tag, s.entry tag ≠ .free) := by decide +kernel

/-- RequestsFormed: each of the four requesters first in the order, and a snapshot content. -/
theorem witness_RequestsFormed :
    let content := (Watch.freeContext).snapshot 2 none 0
    let snap := (executing enabled (record 6 2)).withCmd
      { (executing enabled (record 6 2)).cmd with snapshot := some content, link := .standing }
    ((after (.enable 1) State.reset).nextRequester = some .control ∧
      (after (.enable 1) State.reset).port.freeTag = some 0) ∧
    (asking.nextRequester = some .command ∧ asking.cmd.snapshot = none) ∧
    (snap.nextRequester = some .command ∧ snap.cmd.snapshot = some content ∧
      snap.cmd.current = some (current (record 6 2))) ∧
    ((after (.bqTailWrite 6) enabled).nextRequester = some .fetcher) ∧
    ((after .eventChoice posting).nextRequester = some .writer ∧
      (after .eventChoice posting).evt.inFlight ≠ none) := by decide +kernel

/-- EntryEnded: a STALE entry, a FREE one, an ACTIVE one at its expiry and one the tick before. -/
theorem witness_EntryEnded :
    (enabled.setEntry 1 (.stale 64 (some 5))).entry (okFor 1).tag = .stale 64 (some 5) ∧
    enabled.entry (okFor 1).tag = .free ∧
    (fetching.entry 1 = .active .command 64 (some 1000) ∧ ((fetching.withTick 1000).tick - 1000).toNat < 2 ^ 47) ∧
    2 ^ 47 ≤ ((fetching.withTick 999).tick - 1000).toNat := by decide +kernel

theorem witness_OnlyGrantsIssue :
    (∃ t, exec .grant asking = .next t ∧ t.port.issued ≠ asking.port.issued) ∧ ¬ asking.pinActs .grant ∧
    (∃ t, exec (.cqReadResponse (okFor 1)) fetching = .next t ∧ t.entry 1 = .free ∧ fetching.entry 1 ≠ .free) ∧
    ¬ fetching.pinActs (.cqReadResponse (okFor 1)) := by
  refine ⟨⟨_, rfl, by decide +kernel⟩, ?_, ⟨_, rfl, by decide +kernel⟩, ?_⟩ <;>
    rintro (⟨n, h, -⟩ | ⟨h, -⟩) <;> cases h

/-- SetupReadAnswered: a legal block at the bounds of its values, and block 9.3 with EQ size code 14. -/
theorem witness_SetupReadAnswered :
    starting.ctl.device = .starting ∧ starting.entry (okFor 0).tag = .active .control 64 (some 16777215) ∧
    (setupOf (BitVec.ofNat 512 (4 * 2 ^ 192 + 12 * 2 ^ 200 + 5 * 2 ^ 208 + 255 * 2 ^ 224 + 16777215 * 2 ^ 256))).legal =
      true ∧
    (setupOf (BitVec.ofNat 512 (4 * 2 ^ 192 + 4 * 2 ^ 200 + 14 * 2 ^ 208 + 2 ^ 224))).legal = false ∧
    PassageMet (withActive starting 0 .control) 0 .control := by decide +kernel

/-- ControlWritten: each device state, with an entry ACTIVE and with none. -/
theorem witness_ControlWritten :
    State.reset.resetAsserted = false ∧ State.reset.ctl.device = .disabled ∧ starting.ctl.device = .starting ∧
    (starting.port.someActive = true ∧ enabled.port.someActive = false) ∧ enabled.ctl.device = .enabled ∧
    (after (.cqTailWrite 16) enabled).ctl.device = .faulted ∧ (after (.disable 0) starting).ctl.device = .stopping ∧
    (after (.softReset 2) starting).ctl.device = .resetting := by decide +kernel

/-- PassageEnded: a disable and a soft reset with no entry ACTIVE, and a response that ends a passage. -/
theorem witness_PassageEnded :
    (∀ c ∈ [Instr.disable 0, .softReset 2],
      enabled.resetAsserted = false ∧ (∃ t, exec c enabled = .next t ∧ t.ctl.device = .disabled) ∧ ¬ enabled.pinActs c) ∧
    enabled.ctl.device ≠ .disabled ∧
    (after (.disable 0) (enabled.setEntry 4 (.stale 64 none))).entry 4 = .stale 64 none ∧
    ∃ t, exec (.setupReadResponse (okFor 0)) (after (.softReset 2) starting) = .next t ∧ t.ctl.device = .disabled := by
  refine ⟨fun c hc => ⟨rfl, ?_, ?_⟩, by decide +kernel, by decide +kernel, _, rfl, by decide +kernel⟩
  · simp only [List.mem_cons, List.not_mem_nil, or_false] at hc
    obtain rfl | rfl := hc <;> exact ⟨_, rfl, by decide +kernel⟩
  · simp only [List.mem_cons, List.not_mem_nil, or_false] at hc
    rintro (⟨n, h, -⟩ | ⟨h, -⟩) <;> obtain rfl | rfl := hc <;> cases h

theorem witness_RegisterWindow :
    enabled.resetAsserted = false ∧ (after (.resetPinAsserted 16) enabled).resetAsserted = true ∧
    enabled.ctl.device ≠ .disabled ∧ (State.reset.ctl.device = .disabled ∧ State.reset.resetAsserted = false) :=
  ⟨rfl, rfl, by decide +kernel, rfl, rfl⟩

/-- FaultedFreezes: a fault, an evaluation in progress at it, and in FAULTED a response to a CQ read and one to a burst. -/
theorem witness_FaultedFreezes :
    (let s := after (.sampleEvaluation .begins) firing
     s.ctl.device ≠ .faulted ∧ s.eng.begun = true ∧
     ∃ t, exec (.cqTailWrite 16) s = .next t ∧ t.ctl.device = .faulted ∧ (t.watch 40).missed = 1) ∧
    (let s := after (.cqTailWrite 16) fetching
     s.ctl.device = .faulted ∧ (∃ t, exec (.cqReadResponse (okFor 1)) s = .next t ∧ t.cmd.link = .none) ∧
     controlValue (.cqReadResponse (okFor 1)) = none ∧ ¬ s.pinActs (.cqReadResponse (okFor 1))) ∧
    (let s := after (.cqTailWrite 16) (running414 11056)
     s.ctl.device = .faulted ∧ ∃ t, exec (.burstWriteResponse (errorFor 5)) s = .next t ∧ (t.slot 0).outstanding = 0) := by
  refine ⟨⟨by decide +kernel, by decide +kernel, _, rfl, by decide +kernel⟩,
    ⟨by decide +kernel, ⟨_, rfl, by decide +kernel⟩, rfl, ?_⟩, by decide +kernel, _, rfl, by decide +kernel⟩
  rintro (⟨n, h, -⟩ | ⟨h, -⟩) <;> cases h

/-- R130, R131 and R146: at a fault the held completion is absent and its source's item kept, which the disable loses. -/
theorem test_fault_keeps_item :
    let t := after (.cqTailWrite 16) completionHeld
    t.cmd.held = none ∧ t.evt.keptCompletion = some cmdDone ∧ after .eventChoice t = t ∧
    (after (.disable 0) t).evt.keptCompletion = none := by decide +kernel

/-- DeviceStateChanges: an enable, an expired CQ read, a range write and the last response of a passage. -/
theorem witness_DeviceStateChanges :
    (∃ t, exec (.enable 1) State.reset = .next t ∧ t.ctl.device ≠ State.reset.ctl.device) ∧
    (∃ t, exec (.responseLimitExpiry 1) (fetching.withTick 1000) = .next t ∧ t.ctl.faultCode = .cqRead) ∧
    (∃ t, exec (.eqHeadWrite 32) enabled = .next t ∧ t.ctl.faultCode = .eqHeadRange) ∧
    ∃ t, exec (.setupReadResponse (okFor 0)) (after (.disable 0) starting) = .next t ∧ t.ctl.device = .disabled :=
  ⟨⟨_, rfl, by decide +kernel⟩, ⟨_, rfl, by decide +kernel⟩, ⟨_, rfl, by decide +kernel⟩, _, rfl, by decide +kernel⟩

theorem witness_ResetPin :
    (after (.resetPinAsserted 16) enabled).resetAsserted = true ∧ enabled.resetAsserted = false ∧
    Instr.refclkTick ≠ .resetPinReleased := by
  refine ⟨rfl, rfl, ?_⟩
  decide

theorem setupSound_enabled : enabled.SetupSound := fun _ => ⟨setup, by decide +kernel⟩

theorem witness_SetupStaysSound :
    holding.SetupSound ∧ holding.ModerationSound ∧ holding.ctl.device = .enabled ∧
    ∃ t, exec .refclkTick holding = .next t :=
  ⟨fun _ => ⟨setup, by decide +kernel⟩, by decide +kernel, by decide +kernel, _, rfl⟩

/-- RecordFields: an event of each kind, at the bounds of its fields, and a snapshot. -/
theorem witness_RecordFields :
    { cmdDone with headAfter := 4095 }.headAfter < 2 ^ 16 ∧
    ((doneWatch onBit0).report 3).missed ≤ 255 ∧ ((doneWatch onBit0).report 3).fireCount < 2 ^ 32 ∧
    ((posting.slot 0).captureDone 0).isSome = true ∧
    (let c := (doneWatch onBit0).snapshot 3 (some 5) 0
     c.missed ≤ 255 ∧ c.fireCount < 2 ^ 32 ∧ c.skipRemaining < 2 ^ 32 ∧ c.windowRemaining = none ∧ c.skip < 2 ^ 32 ∧
       c.window < 2 ^ 32) := by decide +kernel

end Sys2Proof.Tests
end

/-! PROOFS. Sample evaluation and firing (chapter 2): the MATCH and the RANGE test (O11, O12), skip counting (O14). -/

section
namespace Sys2Proof.Machine

/-! ### The fields of a loaded configuration that belong to a test -/

theorem CommandRecord.rangeFieldsLegal_iff (r : CommandRecord) :
    r.rangeFieldsLegal = true ↔
      r.fieldOffset.toNat ≤ 31 ∧ 1 ≤ r.fieldWidth.toNat ∧ r.fieldWidth.toNat ≤ 32 ∧
      r.fieldOffset.toNat + r.fieldWidth.toNat ≤ 32 ∧
      r.high.toNat < 2 ^ r.fieldWidth.toNat ∧ r.low.toNat ≤ r.high.toNat := by
  simp [CommandRecord.rangeFieldsLegal, and_assoc]

/-- The fields of the test in an accepted configuration: those of the other test are 0 (R2), and those of RANGE pass the
checks of R3. -/
theorem CommandRecord.config_test_fields {r : CommandRecord} {c : WatchConfig} (h : r.config = some c) :
    c.mask = (if c.test = .masked then r.mask else 0) ∧
    c.value = (if c.test = .masked then r.value else 0) ∧
    c.fieldOffset = (if c.test = .range then r.fieldOffset.toNat else 0) ∧
    c.fieldWidth = (if c.test = .range then r.fieldWidth.toNat else 0) ∧
    c.low = (if c.test = .range then r.low.toNat else 0) ∧
    c.high = (if c.test = .range then r.high.toNat else 0) ∧
    (c.test = .range → r.rangeFieldsLegal = true) := by
  unfold CommandRecord.config at h
  split at h
  next t _ _ _ _ _ _ _ =>
    split at h
    next => cases h
    next hlegal =>
      have hrange : t = .range → r.rangeFieldsLegal = true := by
        intro e
        simp only [e, Bool.or_eq_true, not_or] at hlegal
        obtain ⟨⟨⟨hfields, -⟩, -⟩, -⟩ := hlegal
        simpa using hfields
      cases h
      exact ⟨rfl, rfl, rfl, rfl, rfl, rfl, hrange⟩
  next => cases h

/-! ### The MATCH test -/

theorem WatchConfig.testResult_masked {c : WatchConfig} (h : c.test = .masked) (sample : Word) :
    c.testResult sample = true ↔ sample &&& c.mask = c.value &&& c.mask := by
  simp [WatchConfig.testResult, h]

/-- Two words agree under a mask exactly when they agree on every bit the mask selects. -/
theorem and_mask_eq_iff {n : Nat} (x y mask : BitVec n) :
    x &&& mask = y &&& mask ↔ ∀ i : Nat, i < n → mask.getLsbD i = true → x.getLsbD i = y.getLsbD i := by
  have bit (i : Nat) : (x &&& mask).getLsbD i = (y &&& mask).getLsbD i ↔
      (mask.getLsbD i = true → x.getLsbD i = y.getLsbD i) := by
    cases hm : mask.getLsbD i <;> simp [hm]
  constructor
  · intro h i _
    exact (bit i).1 (by rw [h])
  · intro h
    exact BitVec.eq_of_getLsbD_eq fun i hi => (bit i).2 (h i hi)

/-- Settles O11: the masked comparison is read bit by bit, and the fields of RANGE come from the stored configuration. -/
theorem matchTest : Obligations.MatchTest := by
  refine ⟨fun c sample hc => ⟨?_, fun hmask => ?_⟩, fun r c hr hc => ?_⟩
  · rw [c.testResult_masked hc, and_mask_eq_iff]
  · rw [c.testResult_masked hc, hmask]
    simp
  · obtain ⟨-, -, hoffset, hwidth, hlow, hhigh, -⟩ := CommandRecord.config_test_fields hr
    simp [hoffset, hwidth, hlow, hhigh, hc]

/-! ### The RANGE test -/

theorem WatchConfig.testResult_range {c : WatchConfig} (h : c.test = .range) (sample : Word) :
    c.testResult sample = true ↔
      c.low ≤ sampleField sample c.fieldOffset c.fieldWidth ∧
      sampleField sample c.fieldOffset c.fieldWidth ≤ c.high := by
  simp [WatchConfig.testResult, h]

theorem sampleField_lt (sample : Word) (offset width : Nat) : sampleField sample offset width < 2 ^ width :=
  Nat.mod_lt _ (Nat.two_pow_pos width)

/-- A field one bit wider has the bit above it as its top bit. -/
theorem sampleField_succ (sample : Word) (offset width : Nat) :
    sampleField sample offset (width + 1) =
      sampleField sample offset width + if sample.getLsbD (offset + width) then 2 ^ width else 0 := by
  have htop : (sample.toNat >>> offset).testBit width = sample.getLsbD (offset + width) := Nat.testBit_shiftRight ..
  unfold sampleField
  rw [Nat.mod_pow_succ, ← Nat.toNat_testBit, htop]
  cases sample.getLsbD (offset + width) <;> simp

/-- A field is the sum of its weighted bits (R27). -/
theorem sum_weightedBits_eq_sampleField (sample : Word) (offset width : Nat) :
    ((List.range width).map fun i => if sample.getLsbD (offset + i) then 2 ^ i else 0).sum =
      sampleField sample offset width := by
  induction width with
  | zero => simp [sampleField, Nat.mod_one]
  | succ width ih => simp [List.range_succ, ih, sampleField_succ]

/-- The field of the whole word is the word. -/
theorem sampleField_whole (sample : Word) : sampleField sample 0 32 = sample.toNat :=
  Nat.mod_eq_of_lt sample.isLt

/-- Settles O12: the sum of weighted bits is the field the test takes, and the checks of R3 put it inside the word. -/
theorem rangeTest : Obligations.RangeTest := by
  refine ⟨fun c sample hc => ?_, fun r c hr hc => ?_⟩
  · dsimp only
    rw [sum_weightedBits_eq_sampleField]
    refine ⟨⟨sampleField_lt .., c.testResult_range hc sample⟩, fun hoffset hwidth => ?_⟩
    rw [hoffset, hwidth, sampleField_whole]
  · obtain ⟨hmask, hvalue, hoffset, hwidth, hlow, hhigh, hlegal⟩ := CommandRecord.config_test_fields hr
    obtain ⟨-, -, -, hinside, hfits, hordered⟩ := r.rangeFieldsLegal_iff.1 (hlegal hc)
    simp [hmask, hvalue, hoffset, hwidth, hlow, hhigh, hc, hinside, hfits, hordered]

/-! ### One sample at a watch: skipped, fired, or no occurrence -/

theorem Watch.fires_iff (w : Watch) (x : Word) : w.fires x = true ↔ w.occurs x = true ∧ w.skipRemaining = 0 := by
  simp [Watch.fires]

/-- Only a LIVE watch has an occurrence (R25). -/
theorem Watch.live_of_occurs {w : Watch} {x : Word} (h : w.occurs x = true) : w.state = .live := by
  by_contra hlive
  simp [Watch.occurs_of_not_live hlive] at h

/-- A sample that is no occurrence changes at most the previous result (R28, R30). -/
theorem Watch.evaluate_of_not_occurs {w : Watch} {p : PresentedSample} (h : w.occurs p.data = false) :
    ∃ r, w.evaluate p = { w with previous := r } := by
  by_cases hlive : w.state = .live
  · exact ⟨.ofTest (w.config.testResult p.data), by simp [Watch.evaluate, Watch.fires, hlive, h]⟩
  · exact ⟨w.previous, Watch.evaluate_of_not_live hlive p⟩

/-- An occurrence with skip remaining above 0 lowers it by 1 and fires nothing (R30). -/
theorem Watch.evaluate_of_skipped {w : Watch} {p : PresentedSample} (h : w.occurs p.data = true)
    (hskip : 0 < w.skipRemaining) :
    w.evaluate p =
      { w with previous := .ofTest (w.config.testResult p.data), skipRemaining := w.skipRemaining - 1 } := by
  simp [Watch.evaluate, Watch.fires, Watch.live_of_occurs h, h, hskip.ne']

/-- A fire is counted once, whatever the mode does after it (R32, R34). -/
theorem Watch.evaluate_fireCount_of_fires {w : Watch} {p : PresentedSample} (h : w.fires p.data = true)
    (hcount : w.fireCount < Config.maxFireCount) : (w.evaluate p).fireCount = w.fireCount + 1 := by
  have hlive := Watch.live_of_occurs ((w.fires_iff _).1 h).1
  have hfired : w.evaluate p =
      (({ w with previous := .ofTest (w.config.testResult p.data) } : Watch).recordFire p).afterFire := by
    simp [Watch.evaluate, hlive, h]
  rw [hfired]
  unfold Watch.afterFire
  split <;> simp [Watch.recordFire, Watch.enterDone, hcount]

/-! ### Counting occurrences over a list of samples -/

@[simp] theorem Watch.afterSamples_nil (w : Watch) : w.afterSamples [] = w := rfl

@[simp] theorem Watch.afterSamples_cons (w : Watch) (p : PresentedSample) (ps : List PresentedSample) :
    w.afterSamples (p :: ps) = (w.evaluate p).afterSamples ps := rfl

@[simp] theorem Watch.occurrencesIn_nil (w : Watch) : w.occurrencesIn [] = 0 := rfl

theorem Watch.occurrencesIn_cons_of_occurs {w : Watch} {p : PresentedSample} (h : w.occurs p.data = true)
    (ps : List PresentedSample) : w.occurrencesIn (p :: ps) = (w.evaluate p).occurrencesIn ps + 1 := by
  simp [Watch.occurrencesIn, h, Nat.add_comm]

theorem Watch.occurrencesIn_cons_of_not_occurs {w : Watch} {p : PresentedSample} (h : w.occurs p.data = false)
    (ps : List PresentedSample) : w.occurrencesIn (p :: ps) = (w.evaluate p).occurrencesIn ps := by
  simp [Watch.occurrencesIn, h]

/-- While no more samples are occurrences than skip remaining lets pass, the watch stays in its state, fires nothing and
lowers skip remaining by 1 for each. -/
theorem Watch.afterSamples_of_all_skipped (ps : List PresentedSample) (w : Watch)
    (h : w.occurrencesIn ps ≤ w.skipRemaining) :
    (w.afterSamples ps).state = w.state ∧ (w.afterSamples ps).fireCount = w.fireCount ∧
    (w.afterSamples ps).skipRemaining + w.occurrencesIn ps = w.skipRemaining := by
  induction ps generalizing w with
  | nil => simp
  | cons p ps ih =>
    cases ho : w.occurs p.data with
    | false =>
      rw [Watch.occurrencesIn_cons_of_not_occurs ho] at h ⊢
      obtain ⟨r, he⟩ := Watch.evaluate_of_not_occurs ho
      rw [Watch.afterSamples_cons]
      rw [he] at h ⊢
      exact ih _ h
    | true =>
      rw [Watch.occurrencesIn_cons_of_occurs ho] at h ⊢
      have hskip : 0 < w.skipRemaining := by omega
      rw [Watch.afterSamples_cons]
      rw [Watch.evaluate_of_skipped ho hskip] at h ⊢
      obtain ⟨hstate, hcount, hsum⟩ := ih _ (Nat.le_sub_one_of_lt h)
      exact ⟨hstate, hcount, by dsimp only at hsum; omega⟩

/-- One occurrence more than skip remaining lets pass is one fire. -/
theorem Watch.afterSamples_fireCount_of_one_fire (ps : List PresentedSample) (w : Watch)
    (h : w.occurrencesIn ps = w.skipRemaining + 1) (hcount : w.fireCount < Config.maxFireCount) :
    (w.afterSamples ps).fireCount = w.fireCount + 1 := by
  induction ps generalizing w with
  | nil => simp at h
  | cons p ps ih =>
    rw [Watch.afterSamples_cons]
    cases ho : w.occurs p.data with
    | false =>
      rw [Watch.occurrencesIn_cons_of_not_occurs ho] at h
      obtain ⟨r, he⟩ := Watch.evaluate_of_not_occurs ho
      rw [he] at h ⊢
      exact ih _ h hcount
    | true =>
      rw [Watch.occurrencesIn_cons_of_occurs ho] at h
      obtain hzero | hskip := Nat.eq_zero_or_pos w.skipRemaining
      · -- the fire; no later sample is an occurrence
        have hrest : (w.evaluate p).occurrencesIn ps = 0 := by omega
        obtain ⟨-, hsame, -⟩ := (w.evaluate p).afterSamples_of_all_skipped ps (hrest ▸ Nat.zero_le _)
        rw [hsame, Watch.evaluate_fireCount_of_fires ((w.fires_iff _).2 ⟨ho, hzero⟩) hcount]
      · rw [Watch.evaluate_of_skipped ho hskip] at h ⊢
        exact ih _ (by dsimp only; omega) hcount

/-! ### What an EVENT_CHOICE puts in flight -/

/-- The item a choice takes is drawn from the reports of the watches, and from nothing else of the Watch Table. -/
theorem State.offer_setWatch {s : State} {w : WatchId} {x : Watch} (h : x.report w = (s.watch w).report w) :
    (s.setWatch w x).offer = s.offer := by
  have hreport (v : WatchId) : ((s.setWatch w x).watch v).report v = (s.watch v).report v := by
    rw [State.setWatch_watch]
    split
    next e => rw [e, h]
    next => rfl
  simp only [State.offer, State.setWatch_cap, State.setWatch_acq, State.setWatch_cmd, State.setWatch_fetch,
    State.setWatch_eng, hreport]

/-- The Event Writer with a chosen item in flight (R112, R115). -/
def EventWriter.holding (e : EventWriter) (tick : Tick) (c : EventContent) : EventWriter :=
  { e with
    inFlight := some { index := e.tail, phase := e.lapParity, eventTick := tick, content := c }
    request := .standing }

/-- What an EVENT_CHOICE leaves of the Event Writer: it depends on the tick, on the offer and on the Event Writer, beside
the device state. -/
theorem exec_eventChoice_evt {s t : State} (h : exec .eventChoice s = .next t) :
    t.evt = if s.mayChoose = true then s.offer.elim s.evt (s.evt.holding s.tick) else s.evt := by
  rw [← Host.Outcome.next.inj h]
  split
  · cases s.offer <;> rfl
  · rfl

/-- A watch context changed in no field that its report carries makes no difference to what a choice puts in flight. -/
theorem exec_eventChoice_setWatch_evt {s t : State} {w : WatchId} {x : Watch}
    (hx : x.report w = (s.watch w).report w) (h : exec .eventChoice s = .next t) :
    ∃ u, exec .eventChoice (s.setWatch w x) = .next u ∧ u.evt = t.evt := by
  refine ⟨_, rfl, ?_⟩
  rw [exec_eventChoice_evt h, exec_eventChoice_evt rfl, State.offer_setWatch hx]
  rfl

/-- Settles O14: the clauses on one sample are the three cases of an evaluation, those on a list of samples follow by
induction over it, and a watch's report does not carry skip remaining. -/
theorem skipCounting : Obligations.SkipCounting := by
  refine ⟨?oneSample, ?manySamples, fun _ _ _ _ => rfl, fun s t w n => exec_eventChoice_setWatch_evt rfl⟩
  case oneSample =>
    refine fun w p _ => ⟨fun ho hskip => ⟨?_, ?_⟩, fun ho hzero => (w.fires_iff _).2 ⟨ho, hzero⟩, fun ho => ⟨?_, ?_⟩⟩
    · simp [Watch.fires, hskip.ne']
    · rw [Watch.evaluate_of_skipped ho hskip]
    · simp [Watch.fires, ho]
    · obtain ⟨r, he⟩ := Watch.evaluate_of_not_occurs ho
      rw [he]
  case manySamples =>
    refine fun w ps hlive hskip hcount => ⟨fun h => ?_, fun h => ?_⟩
    · simpa only [hlive, hskip, hcount] using w.afterSamples_of_all_skipped ps (hskip ▸ h)
    · rw [w.afterSamples_fireCount_of_one_fire ps (hskip ▸ h) (hcount ▸ by decide), hcount]

end Sys2Proof.Machine
end

/-! PROOFS. Acquisition, timebase and the History Ring (chapter 3): the tick counter (O19). -/

section
namespace Sys2Proof.Machine

/-! ### The tick count and the device state, after each update and each shared operation -/

/-- What R51 speaks of: the tick count, and the device state whose changes may set it to 0. -/
def State.tickAndDevice (s : State) : Tick × DeviceState := (s.tick, s.ctl.device)

section
variable (s : State)

@[simp] theorem State.tickAndDevice_withAcq (x : Acquisition) : (s.withAcq x).tickAndDevice = s.tickAndDevice := rfl
@[simp] theorem State.tickAndDevice_withEng (x : WatchEngine) : (s.withEng x).tickAndDevice = s.tickAndDevice := rfl
@[simp] theorem State.tickAndDevice_withCap (x : CaptureUnit) : (s.withCap x).tickAndDevice = s.tickAndDevice := rfl
@[simp] theorem State.tickAndDevice_withFetch (x : Fetcher) : (s.withFetch x).tickAndDevice = s.tickAndDevice := rfl
@[simp] theorem State.tickAndDevice_withCmd (x : CommandUnit) : (s.withCmd x).tickAndDevice = s.tickAndDevice := rfl
@[simp] theorem State.tickAndDevice_withEvt (x : EventWriter) : (s.withEvt x).tickAndDevice = s.tickAndDevice := rfl
@[simp] theorem State.tickAndDevice_withPort (x : MemoryPort) : (s.withPort x).tickAndDevice = s.tickAndDevice := rfl
@[simp] theorem State.tickAndDevice_setWatch (w : WatchId) (x : Watch) :
    (s.setWatch w x).tickAndDevice = s.tickAndDevice := rfl
@[simp] theorem State.tickAndDevice_setSlot (i : SlotId) (x : Slot) :
    (s.setSlot i x).tickAndDevice = s.tickAndDevice := rfl
@[simp] theorem State.tickAndDevice_setEntry (tag : Tag) (x : PortEntry) :
    (s.setEntry tag x).tickAndDevice = s.tickAndDevice := rfl
@[simp] theorem State.tickAndDevice_complete (st : CmdStatus) : (s.complete st).tickAndDevice = s.tickAndDevice := rfl
@[simp] theorem State.tickAndDevice_watchDone (w : WatchId) (reason : EndReason) :
    (s.watchDone w reason).tickAndDevice = s.tickAndDevice := rfl
@[simp] theorem State.tickAndDevice_takeStart : s.takeStart.tickAndDevice = s.tickAndDevice := rfl
@[simp] theorem State.tickAndDevice_arrive (word : Word) : (s.arrive word).tickAndDevice = s.tickAndDevice := rfl

@[simp] theorem State.tickAndDevice_checkCommandFetch : s.checkCommandFetch.tickAndDevice = s.tickAndDevice := by
  obtain ⟨-, -, -, h⟩ | ⟨-, h⟩ := s.checkCommandFetch_cases
  · rw [h]; rfl
  · rw [h]

@[simp] theorem State.tickAndDevice_checkBufferFetch : s.checkBufferFetch.tickAndDevice = s.tickAndDevice := by
  rw [s.checkBufferFetch_eq]; rfl

@[simp] theorem State.tickAndDevice_checkStart : s.checkStart.tickAndDevice = s.tickAndDevice := by
  rw [s.checkStart_frame]; rfl

@[simp] theorem State.tickAndDevice_holdStart : s.holdStart.tickAndDevice = s.tickAndDevice := by
  obtain ⟨-, -, h⟩ | ⟨-, h⟩ := s.holdStart_cases
  · rw [h]; rfl
  · rw [h]

@[simp] theorem State.tickAndDevice_makeCaptureRequests (p : PresentedSample) (ws : List WatchId) :
    (State.makeCaptureRequests p ws s).tickAndDevice = s.tickAndDevice := by
  rw [State.makeCaptureRequests_frame]; rfl

@[simp] theorem State.tickAndDevice_closeSample (halt : Option WatchId) (n : SampleNo) :
    (s.closeSample halt n).tickAndDevice = s.tickAndDevice := by
  unfold State.closeSample
  cases halt with
  | none => simp
  | some w => cases h : s.acq.state <;> simp

@[simp] theorem State.tickAndDevice_evaluateSample (p : PresentedSample) :
    (s.evaluateSample p).tickAndDevice = s.tickAndDevice := by
  simp [State.evaluateSample]

/-- The evaluation that a REFCLK period may end neither counts nor changes the device state (R187). -/
@[simp] theorem State.tickAndDevice_endDueEvaluation : s.endDueEvaluation.tickAndDevice = s.tickAndDevice := by
  obtain ⟨p, -, -, -, h⟩ | ⟨-, h⟩ := s.endDueEvaluation_cases
  · rw [h]
    split <;> simp
  · rw [h]

@[simp] theorem State.tickAndDevice_captureDoneChosen (i : SlotId) :
    (s.captureDoneChosen i).tickAndDevice = s.tickAndDevice := by
  unfold State.captureDoneChosen
  cases s.cap.cancelling with
  | none => simp
  | some p =>
    dsimp only
    split
    · split <;> simp
    · simp

@[simp] theorem State.tickAndDevice_itemChosen (c : EventContent) :
    (s.itemChosen c).tickAndDevice = s.tickAndDevice := by
  cases c with
  | watchReport r => rfl
  | _ => simp [State.itemChosen]

@[simp] theorem State.tickAndDevice_choose (c : EventContent) : (s.choose c).tickAndDevice = s.tickAndDevice := by
  simp [State.choose]

@[simp] theorem State.tickAndDevice_tellGranted (tag : Tag) (q : Requester) :
    (s.tellGranted tag q).tickAndDevice = s.tickAndDevice := by
  cases q with
  | control => rfl
  | _ => simp [State.tellGranted]

@[simp] theorem State.tickAndDevice_makeGrant : s.makeGrant.tickAndDevice = s.tickAndDevice := by
  obtain ⟨q, tag, -, -, -, h⟩ | h := s.makeGrant_cases
  · simp [h, State.issueGrant]
  · rw [h]

end

/-! ### Where the counter stands, and RESETTING is neither entered nor left -/

/-- The tick counter stands, and the part is RESETTING after as it was before. -/
def State.TickStands (s t : State) : Prop :=
  t.tick = s.tick ∧ (t.ctl.device = .resetting ↔ s.ctl.device = .resetting)

theorem State.TickStands.refl (s : State) : s.TickStands s := ⟨rfl, .rfl⟩

theorem State.TickStands.trans {s t u : State} (h : s.TickStands t) (g : t.TickStands u) : s.TickStands u :=
  ⟨g.1.trans h.1, g.2.trans h.2⟩

theorem State.TickStands.of_eq {s t : State} (h : t.tickAndDevice = s.tickAndDevice) : s.TickStands t := by
  obtain ⟨htick, hdevice⟩ := Prod.mk.inj h
  exact ⟨htick, by rw [hdevice]⟩

/-- A fatal error report enters FAULTED at most, and not from RESETTING (R175). -/
theorem State.tickStands_fatal (s : State) (code : FaultCode) : s.TickStands (s.fatal code) := by
  obtain ⟨hd, h⟩ | ⟨hd, h⟩ | ⟨-, h⟩ := s.fatal_cases code
  · rw [h, s.enterFaulted_eq]
    obtain hd | hd := hd <;> simp [State.TickStands, hd]
  · simp [State.TickStands, h]
  · rw [h]
    exact .refl s

/-! ### Answers at their owners -/

theorem State.tickStands_toControl (s : State) (ans : Answer) (data : ReadData) :
    s.TickStands (s.toControl ans data) := by
  have absorbed : s.TickStands (s.withCtl { s.ctl with setupRequest := .none }) := .of_eq rfl
  unfold State.toControl
  split
  next hd =>
    cases ans with
    | error => exact absorbed.trans (State.tickStands_fatal _ _)
    | ok =>
      dsimp only
      split
      · exact ⟨rfl, by simp [State.enterEnabled, hd]⟩
      · exact absorbed.trans (State.tickStands_fatal _ _)
  next => exact absorbed

theorem State.tickStands_toCommand (s : State) (ans : Answer) (data : ReadData) :
    s.TickStands (s.toCommand ans data) := by
  unfold State.toCommand
  split
  next =>
    cases s.cmd.state with
    | fetching =>
      cases ans with
      | ok => exact .of_eq rfl
      | error => exact .trans (.of_eq rfl) (State.tickStands_fatal _ _)
    | executing => exact .of_eq rfl
    | idle => exact .of_eq rfl
    | posting => exact .of_eq rfl
  next => exact .of_eq rfl

theorem State.tickStands_toFetcher (s : State) (ans : Answer) (data : ReadData) :
    s.TickStands (s.toFetcher ans data) := by
  unfold State.toFetcher
  split
  next =>
    cases ans with
    | ok => exact .of_eq (by simp [State.bqRead])
    | error => exact .trans (.of_eq rfl) (State.tickStands_fatal _ _)
  next => exact .of_eq rfl

theorem State.tickStands_eqWritten (s : State) (ans : Answer) : s.TickStands (s.eqWritten ans) := by
  cases ans with
  | error => exact .trans (.of_eq rfl) (State.tickStands_fatal _ _)
  | ok =>
    refine .of_eq ?_
    simp only [State.eqWritten, State.cmdDoneWritten]
    split
    · rw [State.tickAndDevice_checkCommandFetch]
      split <;> rfl
    · rfl

theorem State.tickStands_toWriter (s : State) (ans : Answer) : s.TickStands (s.toWriter ans) := by
  unfold State.toWriter
  cases s.ctl.device with
  | enabled => exact s.tickStands_eqWritten ans
  | faulted =>
    cases ans with
    | ok => exact .of_eq rfl
    | error => exact .trans (.of_eq rfl) (State.tickStands_fatal _ _)
  | _ => exact .of_eq rfl

/-- No answer, at whichever owner, changes the tick count or makes the part enter or leave RESETTING. -/
theorem State.tickStands_deliver (s : State) (q : Requester) (tag : Tag) (ans : Answer) (data : ReadData) :
    s.TickStands (s.deliver q tag ans data) := by
  cases q with
  | control => exact s.tickStands_toControl ans data
  | command => exact s.tickStands_toCommand ans data
  | fetcher => exact s.tickStands_toFetcher ans data
  | writer => exact s.tickStands_toWriter ans
  | slot i =>
    obtain ⟨x, h⟩ := s.toSlot_cases i tag ans
    exact .of_eq (by simp [State.deliver, h])

/-! ### The end of a passage -/

/-- RESETTING ends in DISABLED, with the tick counter at 0 (R51, R174). -/
def State.ResetEnds (s t : State) : Prop := s.ctl.device = .resetting ∧ t.tick = 0 ∧ t.ctl.device = .disabled

/-- An event before which the counter stands may end a passage; one through RESETTING sets the counter to 0 (R51, R161). -/
theorem State.TickStands.endPassage {s u : State} (h : s.TickStands u) :
    s.TickStands u.endPassage ∨ s.ResetEnds u.endPassage := by
  obtain ⟨-, hd, e⟩ | ⟨-, hd, e⟩ | ⟨-, e⟩ := u.endPassage_cases
  · refine .inl (h.trans ?_)
    rw [e]
    exact ⟨rfl, by simp [State.disabledValues, hd]⟩
  · rw [e]
    exact .inr ⟨h.2.1 hd, rfl, rfl⟩
  · rw [e]
    exact .inl h

theorem State.takeResponse_tick (s : State) (r : Response) :
    s.TickStands (s.takeResponse r) ∨ s.ResetEnds (s.takeResponse r) := by
  obtain ⟨-, h⟩ | ⟨size, e, -, h⟩ | ⟨q, size, e, -, h⟩ := s.takeResponse_cases r
  · rw [h]
    exact .inl (.refl s)
  · rw [h]
    exact .inl (.of_eq rfl)
  · rw [h]
    exact (State.TickStands.trans (.of_eq rfl) (State.tickStands_deliver (s.setEntry r.tag .free) ..)).endPassage

theorem State.takeExpiry_tick (s : State) (tag : Tag) :
    s.TickStands (s.takeExpiry tag) ∨ s.ResetEnds (s.takeExpiry tag) := by
  obtain ⟨q, size, e, -, -, h⟩ | ⟨-, h⟩ := s.takeExpiry_cases tag
  · rw [h]
    exact (State.TickStands.trans (.of_eq rfl)
      (State.tickStands_deliver (s.setEntry tag (.stale size (some e))) ..)).endPassage
  · rw [h]
    exact .inl (.refl s)

/-! ### Writes to CONTROL -/

/-- A disable leaves the counter standing, in STOPPING or at once in DISABLED (R173). -/
theorem State.leave_stopping_tick {s : State} (hd : s.ctl.device ≠ .resetting) : s.TickStands (s.leave .stopping) := by
  have stopped : s.TickStands
      ((s.stopBlocks .stopping).withCtl { (s.stopBlocks .stopping).ctl with enable := false }) := by
    rw [s.stopBlocks_eq .stopping (by decide)]
    exact ⟨rfl, by simp [hd]⟩
  exact stopped.endPassage.resolve_right fun h => hd h.1

/-- A soft reset leaves the part in RESETTING with the counter standing, or at once in DISABLED with the counter at 0
(R174). -/
theorem State.leave_resetting_tick (s : State) :
    ((s.leave .resetting).tick = s.tick ∧ (s.leave .resetting).ctl.device = .resetting) ∨
    ((s.leave .resetting).tick = 0 ∧ (s.leave .resetting).ctl.device = .disabled) := by
  have stopped : ((s.stopBlocks .resetting).withCtl
      { (s.stopBlocks .resetting).ctl with enable := false }).tickAndDevice = (s.tick, .resetting) := by
    rw [s.stopBlocks_eq .resetting (by decide)]
    rfl
  obtain ⟨htick, hdevice⟩ := Prod.mk.inj stopped
  obtain ⟨hstands, hstays⟩ | ⟨-, hzero, hdisabled⟩ := (State.TickStands.refl _).endPassage (u :=
    (s.stopBlocks .resetting).withCtl { (s.stopBlocks .resetting).ctl with enable := false })
  · exact .inl ⟨hstands.trans htick, hstays.2 hdevice⟩
  · exact .inr ⟨hzero, hdisabled⟩

/-- A write of 0 to CONTROL.RESET, and every write while RESETN is asserted, leaves the counter standing (R164). -/
theorem State.writeControl_tick_of_not_reset {s : State} {v : Word}
    (h : s.resetAsserted = true ∨ v.getLsbD 1 = false) : s.TickStands (s.writeControl v) := by
  unfold State.writeControl
  split
  next => exact .refl s
  next hpin =>
    rw [if_neg (by simpa [hpin] using h)]
    split
    next =>
      split
      next hd => exact ⟨rfl, by simp [State.enterStarting, hd]⟩
      next => exact .refl s
    next =>
      cases hd : s.ctl.device with
      | starting | enabled | faulted => exact State.leave_stopping_tick (by simp [hd])
      | disabled | stopping | resetting => exact .refl s

/-- A write of 1 to CONTROL.RESET is a soft reset, but in RESETTING (R164, R174). -/
theorem State.writeControl_tick_of_reset {s : State} {v : Word} (hpin : s.resetAsserted = false)
    (hv : v.getLsbD 1 = true) :
    ((s.writeControl v).tick = s.tick ∧ (s.writeControl v).ctl.device = .resetting) ∨
    ((s.writeControl v).tick = 0 ∧ (s.writeControl v).ctl.device = .disabled) := by
  have h : s.writeControl v = if s.ctl.device = .resetting then s else s.leave .resetting := by
    simp [State.writeControl, hpin, hv]
  rw [h]
  split
  next hd => exact .inl ⟨rfl, hd⟩
  next => exact s.leave_resetting_tick

/-! ### Every command but REFCLK_TICK -/

/-- A command writes no 1 to CONTROL.RESET when it is no CONTROL write. -/
theorem not_writesReset_of_controlValue {c : Instr} (h : controlValue c = none) : ¬ writesReset c :=
  fun ⟨v, hv, _⟩ => by simp [h] at hv

/-- What a command other than a REFCLK period does to the tick counter (R51): a reset sets it to 0 with the part in DISABLED,
or it stands, with the part still RESETTING where it was, and RESETTING after a soft reset. -/
def TickCases (c : Instr) (s t : State) : Prop :=
  (t.tick = 0 ∧ t.ctl.device = .disabled ∧ (s.pinActs c ∨ s.ctl.device = .resetting ∨ writesReset c)) ∨
  (t.tick = s.tick ∧
    (s.resetAsserted = false → s.ctl.device = .resetting ∨ writesReset c → t.ctl.device = .resetting))

theorem TickCases.of_stands {c : Instr} {s t : State} (hc : s.resetAsserted = true ∨ ¬ writesReset c)
    (h : s.TickStands t) : TickCases c s t :=
  .inr ⟨h.1, fun hpin hr => h.2.2 (hr.resolve_right (hc.resolve_left (by simp [hpin])))⟩

theorem TickCases.of_passage {c : Instr} {s t : State} (hc : controlValue c = none)
    (h : s.TickStands t ∨ s.ResetEnds t) : TickCases c s t := by
  obtain h | ⟨hd, hzero, hdisabled⟩ := h
  · exact .of_stands (.inr (not_writesReset_of_controlValue hc)) h
  · exact .inl ⟨hzero, hdisabled, .inr (.inl hd)⟩

theorem TickCases.of_eq {c : Instr} {s t : State} (hc : controlValue c = none)
    (h : t.tickAndDevice = s.tickAndDevice) : TickCases c s t :=
  .of_passage hc (.inl (.of_eq h))

theorem TickCases.of_writeControl {c : Instr} {s : State} {v : Word} (hc : controlValue c = some v) :
    TickCases c s (s.writeControl v) := by
  have hreset : writesReset c ↔ v.getLsbD 1 = true := by simp [writesReset, hc]
  by_cases h : s.resetAsserted = true ∨ v.getLsbD 1 = false
  · exact .of_stands (h.imp_right fun h => mt hreset.1 (ne_true_of_eq_false h)) (State.writeControl_tick_of_not_reset h)
  · simp only [not_or, Bool.not_eq_true, Bool.not_eq_false] at h
    obtain ⟨hstands, hd⟩ | ⟨hzero, hd⟩ := State.writeControl_tick_of_reset h.1 h.2
    · exact .inr ⟨hstands, fun _ _ => hd⟩
    · exact .inl ⟨hzero, hd, .inr (.inr (hreset.2 h.2))⟩

/-- Every command completes, and one other than a REFCLK period does no more to the tick counter than `TickCases` says. -/
theorem exec_tickCases {c : Instr} (hc : c ≠ .refclkTick) (s : State) :
    ∃ t, exec c s = .next t ∧ TickCases c s t := by
  cases c with
  | refclkTick => exact absurd rfl hc
  | enable v | disable v | softReset v => exact ⟨_, rfl, .of_writeControl rfl⟩
  | resetPinAsserted n =>
    refine ⟨_, rfl, ?_⟩
    split
    next hn => exact .inl ⟨rfl, rfl, .inl (.inl ⟨n, rfl, hn⟩)⟩
    next => exact .of_eq rfl rfl
  | resetPinReleased =>
    refine ⟨_, rfl, ?_⟩
    split
    next hpin => exact .inl ⟨rfl, rfl, .inl (.inr ⟨rfl, hpin⟩)⟩
    next => exact .of_eq rfl rfl
  | cqReadResponse r | snapshotWriteResponse r | burstWriteResponse r | bqReadResponse r | setupReadResponse r
  | lateResponse r | eqWriteResponse r => exact ⟨_, rfl, .of_passage rfl (s.takeResponse_tick r)⟩
  | nop tag record => exact ⟨_, rfl, .of_passage rfl (s.takeResponse_tick _)⟩
  | responseLimitExpiry tag => exact ⟨_, rfl, .of_passage rfl (s.takeExpiry_tick tag)⟩
  | cqTailWrite v | bqTailWrite v =>
    refine ⟨_, rfl, .of_passage rfl (.inl ?_)⟩
    split
    · split
      · exact s.tickStands_fatal _
      · exact .refl s
      · exact .of_eq (by simp)
    · exact .refl s
  | eqHeadWrite v =>
    refine ⟨_, rfl, .of_passage rfl (.inl ?_)⟩
    split
    · split
      · exact s.tickStands_fatal _
      · exact .of_eq rfl
    · exact .refl s
  | grant => exact ⟨_, rfl, .of_eq rfl s.tickAndDevice_makeGrant⟩
  | registerWrite reg v =>
    refine ⟨_, rfl, .of_eq rfl ?_⟩
    split
    · cases reg <;> rfl
    · rfl
  | sampleArrival _ | startOfRunNotice | expiryRaised _ | windowExpiry _ | startTaken | interruptWrite _ =>
    refine ⟨_, rfl, .of_eq rfl ?_⟩
    split <;> simp
  | load | arm | disarm | snapshot | start | stop | holdoffExpiry =>
    refine ⟨_, rfl, .of_eq rfl ?_⟩
    split
    · rfl
    · split <;> simp
  | sampleEvaluation extent =>
    refine ⟨_, rfl, .of_eq rfl ?_⟩
    split
    · rfl
    · split
      · cases extent <;> simp
      · rfl
  | free =>
    refine ⟨_, rfl, .of_eq rfl ?_⟩
    split
    · rfl
    · split
      · simp
      · split <;> simp
  | cancel =>
    refine ⟨_, rfl, .of_eq rfl ?_⟩
    split
    · rfl
    · split
      · dsimp only
        split <;> simp
      · rfl
  | eventChoice =>
    refine ⟨_, rfl, .of_eq rfl ?_⟩
    split
    · split <;> simp
    · rfl

theorem exec_next_tickCases {c : Instr} {s t : State} (hc : c ≠ .refclkTick) (h : exec c s = .next t) :
    TickCases c s t := by
  obtain ⟨u, hu, hcases⟩ := exec_tickCases hc s
  rwa [← Host.Outcome.next.inj (hu.symm.trans h)]

/-! ### A REFCLK period, and the level changes of RESETN -/

theorem exec_refclkTick_running {s : State} (h : s.resetAsserted = false) :
    exec .refclkTick s = .next (s.endDueEvaluation.withTick (s.tick + 1)) := by
  simp [exec, execRefclkTick, h]

theorem exec_refclkTick_reset {s : State} (h : s.resetAsserted = true) : exec .refclkTick s = .next s := by
  simp [exec, execRefclkTick, h]

/-- A REFCLK period neither enters nor leaves DISABLED (R51). -/
theorem exec_refclkTick_device {s t : State} (h : exec .refclkTick s = .next t) : t.ctl.device = s.ctl.device := by
  rw [← Host.Outcome.next.inj h]
  split
  · rfl
  · exact congrArg Prod.snd s.tickAndDevice_endDueEvaluation

/-- A level change of RESETN that acts leaves the power-on value of the counter (R178, R187). -/
theorem exec_tick_of_pinActs {c : Instr} {s t : State} (h : exec c s = .next t) (hpin : s.pinActs c) : t.tick = 0 := by
  obtain ⟨n, rfl, hn⟩ | ⟨rfl, hlow⟩ := hpin
  · rw [← Host.Outcome.next.inj h, if_pos hn]
    rfl
  · rw [← Host.Outcome.next.inj h, if_pos hlow]
    rfl

/-! ### A response limit in RESETTING -/

/-- In RESETTING an answer is absorbed by its owner, and does not touch the Request Table (R95, R107, R131, R147, R171). -/
theorem State.deliver_port_of_resetting {s : State} (hd : s.ctl.device = .resetting) (q : Requester) (tag : Tag)
    (ans : Answer) (data : ReadData) : (s.deliver q tag ans data).port = s.port := by
  cases q with
  | control => simp [State.deliver, State.toControl, hd]
  | command => simp [State.deliver, State.toCommand, hd]
  | fetcher => simp [State.deliver, State.toFetcher, hd]
  | writer => simp [State.deliver, State.toWriter, hd]
  | slot i => simp [State.deliver, State.toSlot, hd]

/-- The end of a passage leaves every Request Table entry as it was (R162). -/
theorem State.endPassage_entry (s : State) (tag : Tag) : s.endPassage.entry tag = s.entry tag := by
  obtain ⟨-, -, h⟩ | ⟨-, -, h⟩ | ⟨-, h⟩ := s.endPassage_cases <;> rw [h] <;> rfl

/-- In RESETTING the expiry of an entry that the tick count has reached leaves it STALE (R157). -/
theorem State.takeExpiry_entry_of_resetting {s : State} {tag : Tag} {q : Requester} {size : Nat} {e : Tick}
    (hd : s.ctl.device = .resetting) (he : s.entry tag = .active q size (some e)) (hr : reached s.tick e = true) :
    (s.takeExpiry tag).entry tag = .stale size (some e) := by
  have taken : s.takeExpiry tag = ((s.setEntry tag (.stale size (some e))).deliver q tag .error 0).endPassage := by
    simp [State.takeExpiry, he, hr]
  have kept : ((s.setEntry tag (.stale size (some e))).deliver q tag .error 0).port =
      (s.setEntry tag (.stale size (some e))).port :=
    State.deliver_port_of_resetting (s := s.setEntry tag (.stale size (some e))) hd ..
  rw [taken, State.endPassage_entry, State.entry, kept]
  exact State.setEntry_entry_same ..

/-- A tick count has reached itself. -/
theorem reached_self (tick : Tick) : reached tick tick = true := by simp [reached]

/-- Settles O19: REFCLK_TICK counts by its own equation, and `TickCases` bounds what every other command does. -/
theorem tickCounter : Obligations.TickCounter := by
  refine ⟨?counts, fun s => exec_refclkTick_reset, ?others, fun c s t => exec_tick_of_pinActs, ?reset, ?expiry,
    fun s x r => rfl⟩
  case counts =>
    refine fun s hpin => ⟨_, exec_refclkTick_running hpin, rfl, fun hnone => ?_⟩
    rw [State.endDueEvaluation_of_none hnone]
    rfl
  case others =>
    intro c s t hc h
    obtain hzero | ⟨hstands, -⟩ := exec_next_tickCases hc h
    · exact .inr hzero
    · exact .inl hstands
  case reset =>
    intro c s t h hdisabled hpin hreset
    by_cases hc : c = .refclkTick
    · subst hc
      have hd : s.ctl.device = .resetting := hreset.resolve_right (not_writesReset_of_controlValue rfl)
      rw [exec_refclkTick_device h, hd] at hdisabled
      cases hdisabled
    · obtain ⟨hzero, -⟩ | ⟨-, hstays⟩ := exec_next_tickCases hc h
      · exact hzero
      · rw [hstays hpin hreset] at hdisabled
        cases hdisabled
  case expiry =>
    intro s tag q size e hd he htick
    exact ⟨_, rfl, State.takeExpiry_entry_of_resetting hd he (htick ▸ reached_self s.tick)⟩

end Sys2Proof.Machine
end

/-! PROOFS. Event Queue and Interrupt (chapter 6): the level of INTN (O41), an EQ_HEAD write and the response to an EQ
write (O38), the register INTERRUPT (O40). -/

section
namespace Sys2Proof.Machine

/-! ### The state with another INTERRUPT -/

/-- The state with another content of INTERRUPT. -/
def State.withInterrupt (s : State) (x : Interrupt) : State := s.withEvt { s.evt with interrupt := x }

section
variable (s : State) (x : Interrupt)

@[simp] theorem State.withInterrupt_resetAsserted : (s.withInterrupt x).resetAsserted = s.resetAsserted := rfl
@[simp] theorem State.withInterrupt_tick : (s.withInterrupt x).tick = s.tick := rfl
@[simp] theorem State.withInterrupt_ctl : (s.withInterrupt x).ctl = s.ctl := rfl
@[simp] theorem State.withInterrupt_acq : (s.withInterrupt x).acq = s.acq := rfl
@[simp] theorem State.withInterrupt_eng : (s.withInterrupt x).eng = s.eng := rfl
@[simp] theorem State.withInterrupt_cap : (s.withInterrupt x).cap = s.cap := rfl
@[simp] theorem State.withInterrupt_fetch : (s.withInterrupt x).fetch = s.fetch := rfl
@[simp] theorem State.withInterrupt_cmd : (s.withInterrupt x).cmd = s.cmd := rfl
@[simp] theorem State.withInterrupt_evt : (s.withInterrupt x).evt = { s.evt with interrupt := x } := rfl
@[simp] theorem State.withInterrupt_port : (s.withInterrupt x).port = s.port := rfl
@[simp] theorem State.withInterrupt_watch (w : WatchId) : (s.withInterrupt x).watch w = s.watch w := rfl
@[simp] theorem State.withInterrupt_slot (i : SlotId) : (s.withInterrupt x).slot i = s.slot i := rfl
@[simp] theorem State.withInterrupt_entry (tag : Tag) : (s.withInterrupt x).entry tag = s.entry tag := rfl

end

/-! ### The level of INTN -/

theorem Interrupt.asserted_iff (i : Interrupt) :
    i.asserted = true ↔ (i.events = true ∧ i.eventsMask = true) ∨ (i.fault = true ∧ i.faultMask = true) := by
  simp [Interrupt.asserted]

theorem State.intnHigh_of_resetAsserted {s : State} (h : s.resetAsserted = true) : s.intnHigh = true := by
  simp [State.intnHigh, h]

theorem State.intnHigh_eq_false_iff {s : State} (h : s.resetAsserted = false) :
    s.intnHigh = false ↔
      (s.evt.interrupt.events = true ∧ s.evt.interrupt.eventsMask = true) ∨
        (s.evt.interrupt.fault = true ∧ s.evt.interrupt.faultMask = true) := by
  rw [← Interrupt.asserted_iff]
  simp [State.intnHigh, h]

/-- INTERRUPT is 0 under either level of RESETN, so INTN is high (R178). -/
theorem State.intnHigh_powerOn (s : State) (asserted : Bool) : (s.powerOn asserted).intnHigh = true := by
  cases asserted <;> rfl

theorem exec_eq_powerOn_of_pinActs {c : Instr} {s t : State} (h : exec c s = .next t) (hpin : s.pinActs c) :
    ∃ asserted, t = s.powerOn asserted := by
  obtain ⟨n, rfl, hn⟩ | ⟨rfl, hlow⟩ := hpin
  · exact ⟨true, (Host.Outcome.next.inj h).symm.trans (if_pos hn)⟩
  · exact ⟨false, (Host.Outcome.next.inj h).symm.trans (if_pos hlow)⟩

theorem exec_interruptWrite_running {s : State} (h : s.resetAsserted = false) (v : Word) :
    exec (.interruptWrite v) s = .next (s.withInterrupt (s.evt.interrupt.write v)) := by
  simp [exec, execInterruptWrite, State.withInterrupt, h]

/-- Settles O41: INTN is read off INTERRUPT while RESETN is high, a mask write sets what is read, and every reset leaves
INTERRUPT cleared. -/
theorem intnLevel : Obligations.IntnLevel := by
  refine ⟨fun s => State.intnHigh_eq_false_iff, fun s => State.intnHigh_of_resetAsserted, ?maskWrite, ?pin, rfl⟩
  case maskWrite =>
    intro s t v hpin hevents hfault h
    rw [exec_interruptWrite_running hpin] at h
    obtain rfl := Host.Outcome.next.inj h
    rw [State.intnHigh_eq_false_iff (by simpa using hpin)]
    simp only [State.withInterrupt_evt, Interrupt.write, hevents, hfault]
    simp
  case pin =>
    intro c s t h hpin
    obtain ⟨asserted, rfl⟩ := exec_eq_powerOn_of_pinActs h hpin
    exact s.intnHigh_powerOn asserted

/-! ### Distances on the EQ ring -/

theorem ringDistance_self (size i : Nat) : ringDistance size i i = 0 := by
  simp [ringDistance]

/-- The distance, with no modulus left. -/
theorem ringDistance_eq_ite {size lo hi : Nat} (hlo : lo < size) (hhi : hi < size) :
    ringDistance size lo hi = if lo ≤ hi then hi - lo else hi + size - lo := by
  unfold ringDistance
  split
  · rw [show hi + size - lo = hi - lo + size by omega, Nat.add_mod_right, Nat.mod_eq_of_lt (by omega)]
  · exact Nat.mod_eq_of_lt (by omega)

theorem ringSucc_eq_ite {size i : Nat} (h : i < size) : (i + 1) % size = if i + 1 = size then 0 else i + 1 := by
  split
  next he => rw [he, Nat.mod_self]
  next => exact Nat.mod_eq_of_lt (by omega)

/-- Where the upper index advances without coming round to the lower one, the distance grows by 1. -/
theorem ringDistance_succ {size lo hi : Nat} (hlo : lo < size) (hhi : hi < size)
    (h : ringDistance size lo hi < size - 1) : ringDistance size lo ((hi + 1) % size) = ringDistance size lo hi + 1 := by
  have hsucc : (hi + 1) % size < size := Nat.mod_lt _ (by omega)
  rw [ringDistance_eq_ite hlo hhi] at h ⊢
  rw [ringDistance_eq_ite hlo hsucc, ringSucc_eq_ite hhi]
  split_ifs at h ⊢ <;> omega

/-- From the index after `i` round to `i` lie all places but one. -/
theorem ringDistance_succ_self {size i : Nat} (hi : i < size) : ringDistance size ((i + 1) % size) i = size - 1 := by
  have hsucc : (i + 1) % size < size := Nat.mod_lt _ (by omega)
  rw [ringDistance_eq_ite hsucc hi, ringSucc_eq_ite hi]
  split_ifs <;> omega

/-! ### The response OK to an EQ write -/

/-- At the threshold the count begins anew, and EVENTS is set (R123). -/
theorem EventWriter.count_of_threshold {e : EventWriter} (h : e.threshold ≤ e.moderation + 1) (tick : Tick) :
    e.count tick =
      { e with moderation := 0, holdoffTimer := none, interrupt := { e.interrupt with events := true } } :=
  if_pos h

/-- Below the threshold the event is counted, and the holdoff timer runs (R123). -/
theorem EventWriter.count_below {e : EventWriter} (h : ¬ e.threshold ≤ e.moderation + 1) (tick : Tick) :
    e.count tick =
      { e with
        moderation := e.moderation + 1
        holdoffTimer :=
          match e.holdoffTimer with
          | some x => some x
          | none => if e.holdoff = 0 then none else some (tick + BitVec.ofNat 48 e.holdoff) } :=
  if_neg h

theorem State.endPassage_of_enabled {s : State} (h : s.ctl.device = .enabled) : s.endPassage = s := by
  obtain ⟨-, hd, -⟩ | ⟨-, hd, -⟩ | ⟨-, e⟩ := s.endPassage_cases
  · rw [h] at hd
    cases hd
  · rw [h] at hd
    cases hd
  · exact e

theorem State.cmdDoneWritten_frame (s : State) : s.cmdDoneWritten = s.withCmd s.cmdDoneWritten.cmd := by
  unfold State.cmdDoneWritten
  split
  · obtain ⟨-, -, -, h⟩ | ⟨-, h⟩ := (s.withCmd { s.cmd with state := .idle }).checkCommandFetch_cases <;> rw [h] <;> rfl
  · obtain ⟨-, -, -, h⟩ | ⟨-, h⟩ := s.checkCommandFetch_cases <;> rw [h] <;> rfl

/-- What the Command Unit does with its CMD_DONE written neither reads nor changes the Event Writer. -/
theorem State.cmdDoneWritten_withEvt (s : State) (e : EventWriter) :
    (s.withEvt e).cmdDoneWritten = s.cmdDoneWritten.withEvt e := by
  have check (u : State) : (u.withEvt e).checkCommandFetch = u.checkCommandFetch.withEvt e := by
    unfold State.checkCommandFetch
    rw [State.withEvt_ctl, State.withEvt_cmd]
    split <;> rfl
  unfold State.cmdDoneWritten
  rw [State.withEvt_cmd]
  split
  · exact check (s.withCmd { s.cmd with state := .idle })
  · exact check s

/-- The part after an OK answer to the EQ write, but for the Event Writer (R113, R145). -/
def State.eqWriteTold (s : State) : State := if s.evt.carriesCmdDone then s.cmdDoneWritten else s

theorem State.eqWriteTold_frame (s : State) : s.eqWriteTold = s.withCmd s.eqWriteTold.cmd := by
  unfold State.eqWriteTold
  split
  · exact s.cmdDoneWritten_frame
  · rfl

/-- An OK answer, in ENABLED, at the Event Writer and at the rest of the part (R116). -/
theorem State.eqWritten_ok (s : State) : s.eqWritten .ok = s.eqWriteTold.withEvt (s.evt.advance.count s.tick) := by
  simp only [State.eqWritten, State.eqWriteTold]
  split
  · exact s.cmdDoneWritten_withEvt _
  · rfl

theorem State.eqWriteTold_ctl (s : State) : s.eqWriteTold.ctl = s.ctl := by rw [s.eqWriteTold_frame]; rfl

theorem State.eqWriteTold_resetAsserted (s : State) : s.eqWriteTold.resetAsserted = s.resetAsserted := by
  rw [s.eqWriteTold_frame]; rfl

/-- What the rest of the part does reads nothing of the Event Writer but whether its event is a CMD_DONE. -/
theorem State.eqWriteTold_withEvt {s : State} {e : EventWriter} (h : e.carriesCmdDone = s.evt.carriesCmdDone) :
    (s.withEvt e).eqWriteTold = s.eqWriteTold.withEvt e := by
  simp only [State.eqWriteTold, State.withEvt_evt, h]
  split
  · exact s.cmdDoneWritten_withEvt e
  · rfl

theorem exec_eqWriteResponse_ok {s : State} {r : Response} {size : Nat} {e : Option Tick}
    (hd : s.ctl.device = .enabled) (he : s.entry r.tag = .active .writer size e) (hr : r.answer = .ok) :
    exec (.eqWriteResponse r) s = .next ((s.setEntry r.tag .free).eqWritten .ok) := by
  have delivered : s.takeResponse r = ((s.setEntry r.tag .free).eqWritten .ok).endPassage := by
    simp [State.takeResponse, State.deliver, State.toWriter, he, hd, hr]
  refine congrArg _ (delivered.trans (State.endPassage_of_enabled ?_))
  rw [State.eqWritten_ok]
  exact (congrArg Control.device (State.eqWriteTold_ctl _)).trans hd

/-! ### EQ_HEAD writes -/

/-- The state with another EQ head. -/
def State.withHead (s : State) (head : Nat) : State := s.withEvt { s.evt with head := head }

theorem exec_eqHeadWrite_valid {s : State} {v : Word} (hpin : s.resetAsserted = false) (hd : s.ctl.device = .enabled)
    (hv : v.toNat < s.evt.size) (hdist : ringDistance s.evt.size v.toNat s.evt.tail ≤ s.evt.fill) :
    exec (.eqHeadWrite v) s = .next (s.withHead v.toNat) := by
  simp [exec, execEqHeadWrite, State.withHead, hpin, hd, Nat.not_le.2 hv, Nat.not_lt.2 hdist]

theorem exec_eqHeadWrite_invalid {s : State} {v : Word} (hpin : s.resetAsserted = false) (hd : s.ctl.device = .enabled)
    (hdist : s.evt.fill < ringDistance s.evt.size v.toNat s.evt.tail) :
    exec (.eqHeadWrite v) s = .next (s.enterFaulted .eqHeadRange) := by
  simp [exec, execEqHeadWrite, State.fatal, hpin, hd, hdist]

/-- The count of an event does not read the head. -/
theorem EventWriter.count_withHead (e : EventWriter) (head : Nat) (tick : Tick) :
    ({ e with head := head } : EventWriter).count tick = { e.count tick with head := head } := by
  by_cases h : e.threshold ≤ e.moderation + 1
  · rw [EventWriter.count_of_threshold h]
    exact EventWriter.count_of_threshold (e := { e with head := head }) h tick
  · rw [EventWriter.count_below h]
    exact EventWriter.count_below (e := { e with head := head }) h tick

theorem EventWriter.count_advance_frame (e : EventWriter) (tick : Tick) :
    (e.advance.count tick).size = e.size ∧ (e.advance.count tick).head = e.head ∧
    (e.advance.count tick).tail = (e.tail + 1) % e.size := by
  rw [EventWriter.count_frame]
  exact ⟨rfl, rfl, rfl⟩

/-- An OK answer and a valid EQ_HEAD write change different fields. -/
theorem State.eqWritten_ok_withHead (s : State) (head : Nat) :
    (s.withHead head).eqWritten .ok = (s.eqWritten .ok).withHead head := by
  have told : (s.withHead head).eqWriteTold = s.eqWriteTold.withEvt { s.evt with head := head } :=
    State.eqWriteTold_withEvt rfl
  rw [State.eqWritten_ok, State.eqWritten_ok, told]
  exact congrArg s.eqWriteTold.withEvt (s.evt.advance.count_withHead head s.tick)

/-- What an OK answer leaves, as far as an EQ_HEAD write reads it: the tail is one on, and all else is as it was. -/
theorem State.eqWritten_ok_ring (s : State) :
    (s.eqWritten .ok).resetAsserted = s.resetAsserted ∧ (s.eqWritten .ok).ctl = s.ctl ∧
    (s.eqWritten .ok).evt.size = s.evt.size ∧ (s.eqWritten .ok).evt.head = s.evt.head ∧
    (s.eqWritten .ok).evt.tail = (s.evt.tail + 1) % s.evt.size := by
  rw [State.eqWritten_ok]
  exact ⟨s.eqWriteTold_resetAsserted, s.eqWriteTold_ctl, s.evt.count_advance_frame s.tick⟩

/-- Settles O38: the answer and the write change different fields, and the answer adds 1 to the distance that the write is
judged by. -/
theorem headWriteMeetsResponse : Obligations.HeadWriteMeetsResponse := by
  intro s r v size e hpin hd he hr hslot hfly
  obtain ⟨⟨hhead, htail⟩, hroom⟩ := hslot
  obtain ⟨f, hf⟩ := Option.ne_none_iff_exists'.1 hfly
  obtain ⟨-, -, hfill⟩ := hroom f hf
  have hb := exec_eqWriteResponse_ok hd he hr
  obtain ⟨hbpin, hbctl, hbsize, hbhead, hbtail⟩ := (s.setEntry r.tag .free).eqWritten_ok_ring
  set b := (s.setEntry r.tag .free).eqWritten .ok
  simp only [State.setEntry_resetAsserted, State.setEntry_ctl, State.setEntry_evt] at hbpin hbctl hbsize hbhead hbtail
  have hbd : b.ctl.device = .enabled := by rw [hbctl, hd]
  have hbfill : b.evt.fill = s.evt.fill + 1 := by
    rw [EventWriter.fill, hbsize, hbhead, hbtail]
    exact ringDistance_succ hhead htail hfill
  refine ⟨⟨b, hb, hbtail, hbfill⟩, ⟨htail, by simp [ringDistance_self]⟩, fun hv hdist => ?valid, fun hv => ?newTail⟩
  case valid =>
    have hafter : ringDistance b.evt.size v.toNat b.evt.tail ≤ b.evt.fill := by
      rw [hbsize, hbtail, hbfill, ringDistance_succ hv htail (hdist.trans_lt hfill)]
      exact Nat.add_le_add_right hdist 1
    refine ⟨_, _, b.withHead v.toNat, exec_eqHeadWrite_valid hpin hd hv hdist, ?_, hb,
      exec_eqHeadWrite_valid (hbpin.trans hpin) hbd (hbsize ▸ hv) hafter, hbd⟩
    rw [exec_eqWriteResponse_ok (s := s.withHead v.toNat) hd he hr]
    exact congrArg _ ((s.setEntry r.tag .free).eqWritten_ok_withHead v.toNat)
  case newTail =>
    have hlt : v.toNat < s.evt.size := hv ▸ Nat.mod_lt _ (by omega)
    have hbefore : s.evt.fill < ringDistance s.evt.size v.toNat s.evt.tail := by
      rw [hv, ringDistance_succ_self htail]
      exact hfill
    have hempty : ringDistance b.evt.size v.toNat b.evt.tail = 0 := by
      rw [hbtail, ← hv, ringDistance_self]
    refine ⟨⟨_, exec_eqHeadWrite_invalid hpin hd hbefore, ?_⟩, b, b.withHead v.toNat, hb,
      exec_eqHeadWrite_valid (hbpin.trans hpin) hbd (hbsize ▸ hlt) (hempty ▸ Nat.zero_le _), hbd, rfl, hempty⟩
    rw [State.enterFaulted_eq]
    exact ⟨rfl, rfl⟩

/-! ### INTERRUPT and each shared operation -/

section
variable (s : State) (x : Interrupt)

@[simp] theorem State.withCtl_withInterrupt (c : Control) :
    (s.withInterrupt x).withCtl c = (s.withCtl c).withInterrupt x := rfl
@[simp] theorem State.withAcq_withInterrupt (a : Acquisition) :
    (s.withInterrupt x).withAcq a = (s.withAcq a).withInterrupt x := rfl
@[simp] theorem State.withEng_withInterrupt (e : WatchEngine) :
    (s.withInterrupt x).withEng e = (s.withEng e).withInterrupt x := rfl
@[simp] theorem State.withCap_withInterrupt (c : CaptureUnit) :
    (s.withInterrupt x).withCap c = (s.withCap c).withInterrupt x := rfl
@[simp] theorem State.withFetch_withInterrupt (f : Fetcher) :
    (s.withInterrupt x).withFetch f = (s.withFetch f).withInterrupt x := rfl
@[simp] theorem State.withCmd_withInterrupt (u : CommandUnit) :
    (s.withInterrupt x).withCmd u = (s.withCmd u).withInterrupt x := rfl
@[simp] theorem State.withPort_withInterrupt (m : MemoryPort) :
    (s.withInterrupt x).withPort m = (s.withPort m).withInterrupt x := rfl
@[simp] theorem State.setSlot_withInterrupt (i : SlotId) (sl : Slot) :
    (s.withInterrupt x).setSlot i sl = (s.setSlot i sl).withInterrupt x := rfl
@[simp] theorem State.setEntry_withInterrupt (tag : Tag) (e : PortEntry) :
    (s.withInterrupt x).setEntry tag e = (s.setEntry tag e).withInterrupt x := rfl
@[simp] theorem State.complete_withInterrupt (st : CmdStatus) :
    (s.withInterrupt x).complete st = (s.complete st).withInterrupt x := rfl
@[simp] theorem State.enterStarting_withInterrupt :
    (s.withInterrupt x).enterStarting = s.enterStarting.withInterrupt x := rfl
@[simp] theorem State.enterEnabled_withInterrupt (b : Setup) :
    (s.withInterrupt x).enterEnabled b = (s.enterEnabled b).withInterrupt x := rfl
@[simp] theorem State.disabledValues_withInterrupt :
    (s.withInterrupt x).disabledValues = s.disabledValues.withInterrupt { x with events := false } := rfl
@[simp] theorem State.softResetValues_withInterrupt : (s.withInterrupt x).softResetValues = s.softResetValues := rfl
@[simp] theorem State.reportChosen_withInterrupt (w : WatchId) :
    (s.withInterrupt x).reportChosen w = (s.reportChosen w).withInterrupt x := rfl

@[simp] theorem State.dispatched_withInterrupt (k : CommandKind) :
    (s.withInterrupt x).dispatched k = s.dispatched k := rfl
@[simp] theorem State.dispatchedWatch_withInterrupt (k : CommandKind) :
    (s.withInterrupt x).dispatchedWatch k = s.dispatchedWatch k := rfl
@[simp] theorem State.startReady_withInterrupt : (s.withInterrupt x).startReady = s.startReady := rfl
@[simp] theorem State.offer_withInterrupt : (s.withInterrupt x).offer = s.offer := rfl
@[simp] theorem State.nextRequester_withInterrupt : (s.withInterrupt x).nextRequester = s.nextRequester := rfl
@[simp] theorem State.grantExpiry_withInterrupt : (s.withInterrupt x).grantExpiry = s.grantExpiry := rfl

@[simp] theorem State.checkBufferFetch_withInterrupt :
    (s.withInterrupt x).checkBufferFetch = s.checkBufferFetch.withInterrupt x := by
  unfold State.checkBufferFetch
  rw [State.withInterrupt_ctl, State.withInterrupt_fetch, State.withInterrupt_cap]
  split <;> rfl

@[simp] theorem State.checkCommandFetch_withInterrupt :
    (s.withInterrupt x).checkCommandFetch = s.checkCommandFetch.withInterrupt x := by
  unfold State.checkCommandFetch
  rw [State.withInterrupt_ctl, State.withInterrupt_cmd]
  split <;> rfl

@[simp] theorem State.checkStart_withInterrupt : (s.withInterrupt x).checkStart = s.checkStart.withInterrupt x := by
  unfold State.checkStart
  rw [State.startReady_withInterrupt]
  split <;> rfl

@[simp] theorem State.holdStart_withInterrupt : (s.withInterrupt x).holdStart = s.holdStart.withInterrupt x := by
  unfold State.holdStart
  rw [State.dispatched_withInterrupt, State.withInterrupt_acq]
  split <;> rfl

theorem State.requestCapture_withInterrupt (w : WatchId) (trigger : SampleNo) (pre post : Nat) :
    (s.withInterrupt x).requestCapture w trigger pre post =
      (s.requestCapture w trigger pre post).map (State.withInterrupt · x) := by
  unfold State.requestCapture
  rw [State.withInterrupt_ctl, State.withInterrupt_cap, State.withInterrupt_acq]
  split
  · split
    · simp
    · rfl
  · rfl

@[simp] theorem State.makeCaptureRequests_withInterrupt (p : PresentedSample) (ws : List WatchId) :
    State.makeCaptureRequests p ws (s.withInterrupt x) = (State.makeCaptureRequests p ws s).withInterrupt x := by
  induction ws generalizing s with
  | nil => rfl
  | cons w rest ih =>
    simp only [State.makeCaptureRequests]
    rw [← ih]
    congr 1
    rw [State.withInterrupt_watch, State.requestCapture_withInterrupt]
    split
    · cases s.requestCapture w p.number (s.watch w).config.pre (s.watch w).config.post <;> rfl
    · rfl

@[simp] theorem State.closeSample_withInterrupt (halt : Option WatchId) (n : SampleNo) :
    (s.withInterrupt x).closeSample halt n = (s.closeSample halt n).withInterrupt x := by
  unfold State.closeSample
  cases halt with
  | none => simp
  | some w => cases h : s.acq.state <;> simp [h]

@[simp] theorem State.evaluateSample_withInterrupt (p : PresentedSample) :
    (s.withInterrupt x).evaluateSample p = (s.evaluateSample p).withInterrupt x := by
  simp [State.evaluateSample, State.haltRequest]

@[simp] theorem State.endDueEvaluation_withInterrupt :
    (s.withInterrupt x).endDueEvaluation = s.endDueEvaluation.withInterrupt x := by
  unfold State.endDueEvaluation
  rw [State.withInterrupt_eng, State.withInterrupt_ctl, State.withInterrupt_tick]
  split
  · rfl
  · split
    · split <;> simp
    · rfl

@[simp] theorem State.captureDoneChosen_withInterrupt (i : SlotId) :
    (s.withInterrupt x).captureDoneChosen i = (s.captureDoneChosen i).withInterrupt x := by
  unfold State.captureDoneChosen
  rw [State.withInterrupt_cap]
  split
  · rfl
  · split
    · split <;> rfl
    · rfl

@[simp] theorem State.itemChosen_withInterrupt (c : EventContent) :
    (s.withInterrupt x).itemChosen c = (s.itemChosen c).withInterrupt x := by
  cases c <;> simp [State.itemChosen]

@[simp] theorem State.choose_withInterrupt (c : EventContent) :
    (s.withInterrupt x).choose c = (s.choose c).withInterrupt x := by
  unfold State.choose
  rw [State.itemChosen_withInterrupt]
  rfl

@[simp] theorem State.formRequest_withInterrupt (tag : Tag) (q : Requester) :
    (s.withInterrupt x).formRequest tag q = s.formRequest tag q := by
  cases q <;> rfl

@[simp] theorem State.tellGranted_withInterrupt (tag : Tag) (q : Requester) :
    (s.withInterrupt x).tellGranted tag q = (s.tellGranted tag q).withInterrupt x := by
  cases q with
  | slot i => simp [State.tellGranted]
  | _ => rfl

@[simp] theorem State.makeGrant_withInterrupt : (s.withInterrupt x).makeGrant = s.makeGrant.withInterrupt x := by
  have granted (q : Requester) (tag : Tag) :
      (s.withInterrupt x).issueGrant q tag = (s.issueGrant q tag).withInterrupt x := by
    simp [State.issueGrant]
  unfold State.makeGrant
  rw [State.withInterrupt_ctl, State.nextRequester_withInterrupt, State.withInterrupt_port]
  split
  · split
    · exact granted _ _
    · rfl
  · rfl

@[simp] theorem State.stopBlocks_withInterrupt (d : DeviceState) :
    (s.withInterrupt x).stopBlocks d = (s.stopBlocks d).withInterrupt x := by
  have closed (u : State) : (u.withInterrupt x).closePresented = u.closePresented.withInterrupt x := by
    unfold State.closePresented
    rw [State.withInterrupt_eng]
    split
    · rfl
    · split <;> simp
  rw [State.stopBlocks, State.stopBlocks, ← closed]
  rfl

@[simp] theorem State.eqWriteTold_withInterrupt : (s.withInterrupt x).eqWriteTold = s.eqWriteTold.withInterrupt x := by
  have told := State.eqWriteTold_withEvt (s := s) (e := { s.evt with interrupt := x }) rfl
  rw [s.eqWriteTold_frame] at told ⊢
  exact told

/-- The count of an event sets EVENTS at the threshold, and leaves INTERRUPT below it (R123). -/
theorem EventWriter.count_withInterrupt (e : EventWriter) (tick : Tick) :
    ({ e with interrupt := x } : EventWriter).count tick =
      { e.count tick with
        interrupt := if e.threshold ≤ e.moderation + 1 then { x with events := true } else x } := by
  by_cases h : e.threshold ≤ e.moderation + 1
  · rw [EventWriter.count_of_threshold h, if_pos h]
    exact EventWriter.count_of_threshold (e := { e with interrupt := x }) h tick
  · rw [EventWriter.count_below h, if_neg h]
    exact EventWriter.count_below (e := { e with interrupt := x }) h tick

theorem State.eqWritten_ok_withInterrupt :
    (s.withInterrupt x).eqWritten .ok =
      (s.eqWritten .ok).withInterrupt
        (if s.evt.threshold ≤ s.evt.moderation + 1 then { x with events := true } else x) := by
  rw [State.eqWritten_ok, State.eqWritten_ok, State.eqWriteTold_withInterrupt]
  exact congrArg s.eqWriteTold.withEvt (EventWriter.count_withInterrupt x s.evt.advance s.tick)

@[simp] theorem State.toSlot_withInterrupt (i : SlotId) (tag : Tag) (ans : Answer) :
    (s.withInterrupt x).toSlot i tag ans = (s.toSlot i tag ans).withInterrupt x := by
  unfold State.toSlot
  rw [State.withInterrupt_ctl]
  cases s.ctl.device <;> simp

end

/-! ### What an event does to INTERRUPT -/

theorem Interrupt.events_of_write {v : Word} {i : Interrupt} (h : (i.write v).events = true) : i.events = true :=
  (Bool.and_eq_true_iff.1 h).1

theorem Interrupt.fault_of_write {v : Word} {i : Interrupt} (h : (i.write v).fault = true) : i.fault = true :=
  (Bool.and_eq_true_iff.1 h).1

/-- The effect of an event at a part in the state `s`, as a function of what INTERRUPT holds: it changes INTERRUPT by a
function of that content, and that content changes nothing else. EVENTS is set from 0 in ENABLED only, with the
moderation count begun anew (R123, R124), and FAULT only where the part ends FAULTED (R128). -/
def State.InterruptEffect (s : State) (run : Interrupt → State) : Prop :=
  ∃ (u : State) (f : Interrupt → Interrupt), (∀ x, run x = u.withInterrupt (f x)) ∧
    (∀ x, x.events = false → (f x).events = true →
      s.ctl.device = .enabled ∧ u.evt.moderation = 0 ∧ u.evt.holdoffTimer = none) ∧
    ∀ x, x.fault = false → (f x).fault = true → u.ctl.device = .faulted

namespace State.InterruptEffect

variable {s u : State} {run : Interrupt → State}

/-- An event that leaves INTERRUPT with both status bits 0, whatever it held. -/
theorem cleared (s : State) (hevents : u.evt.interrupt.events = false) (hfault : u.evt.interrupt.fault = false) :
    s.InterruptEffect fun _ => u :=
  ⟨u, fun _ => u.evt.interrupt, fun _ => rfl, by simp [hevents], by simp [hfault]⟩

/-- An event that clears status bits. -/
theorem of_clears {f : Interrupt → Interrupt} (hevents : ∀ x, (f x).events = true → x.events = true)
    (hfault : ∀ x, (f x).fault = true → x.fault = true) : s.InterruptEffect fun x => u.withInterrupt (f x) :=
  ⟨u, f, fun _ => rfl, fun x hx hf => by simp [hevents x hf] at hx, fun x hx hf => by simp [hfault x hf] at hx⟩

/-- An event that leaves INTERRUPT. -/
theorem kept (h : ∀ x, run x = (run s.evt.interrupt).withInterrupt x) : s.InterruptEffect run :=
  ⟨run s.evt.interrupt, id, h, fun _ hx hf => by simp [hx] at hf, fun _ hx hf => by simp [hx] at hf⟩

/-- An event that may set EVENTS, and begins the moderation count anew. -/
theorem of_setsEvents {f : Interrupt → Interrupt} (hfault : ∀ x, (f x).fault = x.fault)
    (hd : s.ctl.device = .enabled) (hcount : u.evt.moderation = 0) (htimer : u.evt.holdoffTimer = none) :
    s.InterruptEffect fun x => u.withInterrupt (f x) :=
  ⟨u, f, fun _ => rfl, fun _ _ _ => ⟨hd, hcount, htimer⟩, fun x hx hf => by simp [hfault, hx] at hf⟩

/-- An event that sets FAULT in a part that is FAULTED then. -/
theorem of_setsFault (hd : u.ctl.device = .faulted) :
    s.InterruptEffect fun x => u.withInterrupt { x with fault := true } :=
  ⟨u, _, fun _ => rfl, fun _ hx hf => by simp [hx] at hf, fun _ _ _ => hd⟩

/-- The device state is all of `s` that an effect speaks of. -/
theorem of_device (hd : u.ctl.device = s.ctl.device) (h : u.InterruptEffect run) : s.InterruptEffect run := by
  unfold State.InterruptEffect at *
  rwa [hd] at h

/-- The content of INTERRUPT decides no branch, so each branch has an effect of its own. -/
theorem branch {c : Interrupt → Prop} {dec : ∀ x, Decidable (c x)} {run' : Interrupt → State}
    (same : ∀ x, c x = c s.evt.interrupt) (h : c s.evt.interrupt → s.InterruptEffect run)
    (h' : ¬ c s.evt.interrupt → s.InterruptEffect run') :
    s.InterruptEffect fun x => if c x then run x else run' x := by
  by_cases hc : c s.evt.interrupt
  · simpa only [same, if_pos hc] using h hc
  · simpa only [same, if_neg hc] using h' hc

/-- Two branches that both leave INTERRUPT. -/
theorem branch_kept {c : Interrupt → Prop} {dec : ∀ x, Decidable (c x)} {run' : Interrupt → State}
    (same : ∀ x, c x = c s.evt.interrupt) (h : ∀ x, run x = (run s.evt.interrupt).withInterrupt x)
    (h' : ∀ x, run' x = (run' s.evt.interrupt).withInterrupt x) :
    s.InterruptEffect fun x => if c x then run x else run' x :=
  .branch same (fun _ => .kept h) fun _ => .kept h'

/-- An effect on INTERRUPT is one still after the end of a passage, which clears at most (R132, R161). -/
theorem endPassage (h : s.InterruptEffect run) : s.InterruptEffect fun x => (run x).endPassage := by
  obtain ⟨u, f, hrun, hevents, hfault⟩ := h
  obtain rfl : run = fun x => u.withInterrupt (f x) := funext hrun
  have stays : s.InterruptEffect fun x => u.withInterrupt (f x) := ⟨u, f, hrun, hevents, hfault⟩
  simp only [State.endPassage, State.withInterrupt_port, State.withInterrupt_ctl, State.disabledValues_withInterrupt,
    State.softResetValues_withInterrupt]
  refine .branch (fun _ => rfl) (fun _ => stays) fun _ => ?_
  cases hd : u.ctl.device with
  | stopping =>
    refine ⟨u.disabledValues, fun x => { f x with events := false }, fun _ => rfl, by simp, fun x hx hf => ?_⟩
    rw [hfault x hx hf] at hd
    cases hd
  | resetting => exact .cleared s rfl rfl
  | disabled | starting | enabled | faulted => exact stays

/-- A fatal error report sets FAULT, and the part is FAULTED then (R128, R175). -/
theorem fatal (s : State) (code : FaultCode) : s.InterruptEffect fun x => (s.withInterrupt x).fatal code := by
  have entered : s.InterruptEffect fun x => (s.withInterrupt x).enterFaulted code := by
    have hd : (s.enterFaulted code).ctl.device = .faulted := by rw [s.enterFaulted_eq]
    simp only [State.enterFaulted, State.stopBlocks_withInterrupt]
    exact of_setsFault hd
  simp only [State.fatal, State.withInterrupt_ctl]
  cases s.ctl.device with
  | starting | enabled => exact entered
  | faulted => exact of_setsFault (u := s.withCtl { s.ctl with device := .faulted, multi := true }) rfl
  | stopping | resetting | disabled => exact .kept fun _ => rfl

/-! ### Answers at their owners -/

theorem toControl (s : State) (ans : Answer) (data : ReadData) :
    s.InterruptEffect fun x => (s.withInterrupt x).toControl ans data := by
  have reported (code : FaultCode) : s.InterruptEffect fun x =>
      ((s.withCtl { s.ctl with setupRequest := .none }).withInterrupt x).fatal code := .of_device rfl (.fatal _ code)
  simp only [State.toControl, State.withInterrupt_ctl, State.withCtl_withInterrupt, State.enterEnabled_withInterrupt]
  refine .branch (fun _ => rfl) (fun _ => ?_) fun _ => .kept fun _ => rfl
  cases ans with
  | error => exact reported _
  | ok => exact .branch (fun _ => rfl) (fun _ => .kept fun _ => rfl) fun _ => reported _

theorem toCommand (s : State) (ans : Answer) (data : ReadData) :
    s.InterruptEffect fun x => (s.withInterrupt x).toCommand ans data := by
  simp only [State.toCommand, State.cqRead, State.snapshotWritten, State.withInterrupt_ctl, State.withInterrupt_cmd,
    State.withCmd_withInterrupt, State.complete_withInterrupt]
  refine .branch (fun _ => rfl) (fun _ => ?_) fun _ => .kept fun _ => rfl
  cases s.cmd.state with
  | fetching =>
    cases ans with
    | ok => exact .kept fun _ => rfl
    | error => exact .of_device rfl (.fatal _ _)
  | executing | idle | posting => exact .kept fun _ => rfl

theorem toFetcher (s : State) (ans : Answer) (data : ReadData) :
    s.InterruptEffect fun x => (s.withInterrupt x).toFetcher ans data := by
  simp only [State.toFetcher, State.bqRead, State.withInterrupt_ctl, State.withInterrupt_fetch, State.withInterrupt_cap,
    State.withFetch_withInterrupt, State.withCap_withInterrupt, State.checkBufferFetch_withInterrupt]
  split
  · cases ans with
    | ok => exact .kept fun _ => rfl
    | error => exact .of_device rfl (.fatal _ _)
  · exact .kept fun _ => rfl

/-- An OK answer to an EQ write sets EVENTS where the count reaches the threshold, and otherwise keeps it (R123). -/
theorem eqWritten_ok (hd : s.ctl.device = .enabled) : s.InterruptEffect fun x => (s.withInterrupt x).eqWritten .ok := by
  simp only [State.eqWritten_ok_withInterrupt]
  by_cases h : s.evt.threshold ≤ s.evt.moderation + 1
  · have hevt : (s.eqWritten .ok).evt = s.evt.advance.count s.tick := by
      rw [State.eqWritten_ok, State.withEvt_evt]
    rw [EventWriter.count_of_threshold (e := s.evt.advance) h] at hevt
    simp only [if_pos h]
    exact of_setsEvents (fun _ => rfl) hd (by rw [hevt]) (by rw [hevt])
  · simp only [if_neg h]
    exact .kept fun _ => rfl

theorem toWriter (s : State) (ans : Answer) : s.InterruptEffect fun x => (s.withInterrupt x).toWriter ans := by
  have reported : s.InterruptEffect fun x =>
      ((s.withEvt { s.evt with inFlight := none, request := .none }).withInterrupt x).fatal .eqWrite :=
    .of_device rfl (.fatal _ _)
  have absorbed : s.InterruptEffect fun x =>
      (s.withEvt { s.evt with inFlight := none, request := .none }).withInterrupt x := .kept fun _ => rfl
  simp only [State.toWriter, State.withInterrupt_ctl]
  cases hd : s.ctl.device with
  | enabled =>
    cases ans with
    | ok => exact .eqWritten_ok hd
    | error => exact reported
  | faulted =>
    cases ans with
    | ok => exact .kept fun _ => rfl
    | error => exact reported
  | disabled | starting | stopping | resetting => exact absorbed

theorem deliver (s : State) (q : Requester) (tag : Tag) (ans : Answer) (data : ReadData) :
    s.InterruptEffect fun x => (s.withInterrupt x).deliver q tag ans data := by
  cases q with
  | control => exact .toControl s ans data
  | command => exact .toCommand s ans data
  | fetcher => exact .toFetcher s ans data
  | writer => exact .toWriter s ans
  | slot i =>
    simp only [State.deliver, State.toSlot_withInterrupt]
    exact .kept fun _ => rfl

theorem takeResponse (s : State) (r : Response) : s.InterruptEffect fun x => (s.withInterrupt x).takeResponse r := by
  simp only [State.takeResponse, State.withInterrupt_entry, State.setEntry_withInterrupt]
  split
  · exact .kept fun _ => rfl
  · exact .kept fun _ => rfl
  · exact .endPassage (.of_device (u := s.setEntry r.tag .free) rfl (.deliver _ ..))

theorem takeExpiry (s : State) (tag : Tag) : s.InterruptEffect fun x => (s.withInterrupt x).takeExpiry tag := by
  simp only [State.takeExpiry, State.withInterrupt_entry, State.withInterrupt_tick, State.setEntry_withInterrupt]
  split
  next q size e _ =>
    refine .branch (fun _ => rfl) (fun _ => ?_) fun _ => .kept fun _ => rfl
    exact .endPassage (.of_device (u := s.setEntry tag (.stale size (some e))) rfl (.deliver _ ..))
  all_goals exact .kept fun _ => rfl

/-! ### CONTROL writes -/

theorem leave (s : State) (d : DeviceState) : s.InterruptEffect fun x => (s.withInterrupt x).leave d := by
  simp only [State.leave, State.stopBlocks_withInterrupt, State.withInterrupt_ctl, State.withCtl_withInterrupt]
  exact .endPassage (.kept fun _ => rfl)

theorem writeControl (s : State) (v : Word) : s.InterruptEffect fun x => (s.withInterrupt x).writeControl v := by
  simp only [State.writeControl, State.withInterrupt_resetAsserted, State.withInterrupt_ctl,
    State.enterStarting_withInterrupt]
  refine .branch (fun _ => rfl) (fun _ => .kept fun _ => rfl) fun _ => .branch (fun _ => rfl) (fun _ => ?reset) fun _ =>
    .branch (fun _ => rfl) (fun _ => ?enable) fun _ => ?disable
  case reset => exact .branch (fun _ => rfl) (fun _ => .kept fun _ => rfl) fun _ => .leave s _
  case enable => exact .branch_kept (fun _ => rfl) (fun _ => rfl) fun _ => rfl
  case disable =>
    cases s.ctl.device with
    | starting | enabled | faulted => exact .leave s _
    | disabled | stopping | resetting => exact .kept fun _ => rfl

end State.InterruptEffect

/-! ### Every command -/

/-- Every command completes whatever INTERRUPT holds, and does to it what `State.InterruptEffect` says at most. -/
theorem exec_interruptEffect (c : Instr) (s : State) :
    ∃ run, (∀ x, exec c (s.withInterrupt x) = .next (run x)) ∧ s.InterruptEffect run := by
  cases c with
  | cqReadResponse r | snapshotWriteResponse r | burstWriteResponse r | bqReadResponse r | setupReadResponse r
  | lateResponse r | eqWriteResponse r => exact ⟨_, fun _ => rfl, .takeResponse s r⟩
  | nop tag record => exact ⟨_, fun _ => rfl, .takeResponse s _⟩
  | responseLimitExpiry tag => exact ⟨_, fun _ => rfl, .takeExpiry s tag⟩
  | enable v | disable v | softReset v => exact ⟨_, fun _ => rfl, .writeControl s v⟩
  | resetPinAsserted n =>
    refine ⟨_, fun _ => rfl, .branch (fun _ => rfl) (fun _ => ?_) fun _ => .kept fun _ => rfl⟩
    exact .cleared (u := s.powerOn true) s rfl rfl
  | resetPinReleased =>
    refine ⟨_, fun _ => rfl, .branch (fun _ => rfl) (fun _ => ?_) fun _ => .kept fun _ => rfl⟩
    exact .cleared (u := s.powerOn false) s rfl rfl
  | interruptWrite v =>
    refine ⟨_, fun _ => rfl, .branch (fun _ => rfl) (fun _ => .kept fun _ => rfl) fun _ => ?_⟩
    exact .of_clears (u := s) (f := Interrupt.write v) (fun _ h => Interrupt.events_of_write h)
      fun _ h => Interrupt.fault_of_write h
  | holdoffExpiry =>
    refine ⟨_, fun _ => rfl, ?_⟩
    simp only [State.withInterrupt_evt]
    split
    · exact .kept fun _ => rfl
    · refine .branch (fun _ => rfl) (fun h => ?_) fun _ => .kept fun _ => rfl
      exact .of_setsEvents (u := s.withEvt { s.evt with holdoffTimer := none, moderation := 0 }) (fun _ => rfl) h.1
        rfl rfl
  | cqTailWrite v =>
    refine ⟨_, fun _ => rfl, .branch (fun _ => rfl) (fun _ => ?_) fun _ => .kept fun _ => rfl⟩
    simp only [State.withInterrupt_cmd, State.withCmd_withInterrupt, State.checkCommandFetch_withInterrupt]
    split
    · exact .fatal s _
    · exact .kept fun _ => rfl
    · exact .kept fun _ => rfl
  | bqTailWrite v =>
    refine ⟨_, fun _ => rfl, .branch (fun _ => rfl) (fun _ => ?_) fun _ => .kept fun _ => rfl⟩
    simp only [State.withInterrupt_fetch, State.withFetch_withInterrupt, State.checkBufferFetch_withInterrupt]
    split
    · exact .fatal s _
    · exact .kept fun _ => rfl
    · exact .kept fun _ => rfl
  | eqHeadWrite v =>
    refine ⟨_, fun _ => rfl, .branch (fun _ => rfl) (fun _ => ?_) fun _ => .kept fun _ => rfl⟩
    exact .branch (fun _ => rfl) (fun _ => .fatal s _) fun _ => .kept fun _ => rfl
  | registerWrite reg v =>
    refine ⟨_, fun _ => rfl, .branch (fun _ => rfl) (fun _ => ?_) fun _ => .kept fun _ => rfl⟩
    cases reg <;> exact .kept fun _ => rfl
  | grant => exact ⟨_, fun _ => rfl, .kept s.makeGrant_withInterrupt⟩
  | eventChoice =>
    refine ⟨_, fun _ => rfl, .branch (fun _ => rfl) (fun _ => ?_) fun _ => .kept fun _ => rfl⟩
    simp only [State.offer_withInterrupt]
    split
    · exact .kept fun x => s.choose_withInterrupt x _
    · exact .kept fun _ => rfl
  | refclkTick =>
    refine ⟨_, fun _ => rfl, .branch (fun _ => rfl) (fun _ => .kept fun _ => rfl) fun _ => ?_⟩
    simp only [State.endDueEvaluation_withInterrupt]
    exact .kept fun _ => rfl
  | sampleArrival _ | startOfRunNotice | expiryRaised _ | windowExpiry _ =>
    exact ⟨_, fun _ => rfl, .branch_kept (fun _ => rfl) (fun _ => rfl) fun _ => rfl⟩
  | sampleEvaluation extent =>
    refine ⟨_, fun _ => rfl, ?_⟩
    simp only [State.withInterrupt_eng]
    split
    · exact .kept fun _ => rfl
    next p _ =>
      refine .branch (fun _ => rfl) (fun _ => ?_) fun _ => .kept fun _ => rfl
      cases extent with
      | whole => exact .kept fun x => s.evaluateSample_withInterrupt x p
      | begins => exact .kept fun _ => rfl
  | load =>
    refine ⟨_, fun _ => rfl, ?_⟩
    simp only [State.dispatchedWatch_withInterrupt, State.withInterrupt_eng]
    split
    · exact .kept fun _ => rfl
    · split <;> exact .kept fun _ => rfl
  | arm | disarm | snapshot =>
    refine ⟨_, fun _ => rfl, ?_⟩
    simp only [State.dispatchedWatch_withInterrupt]
    split
    · exact .kept fun _ => rfl
    · exact .branch_kept (fun _ => rfl) (fun _ => rfl) fun _ => rfl
  | free =>
    refine ⟨_, fun _ => rfl, ?_⟩
    simp only [State.dispatchedWatch_withInterrupt]
    split
    · exact .kept fun _ => rfl
    · refine .branch (fun _ => rfl) (fun _ => .kept fun _ => rfl) fun _ => ?_
      exact .branch_kept (fun _ => rfl) (fun _ => rfl) fun _ => rfl
  | start =>
    refine ⟨_, fun _ => rfl, ?_⟩
    simp only [State.dispatched_withInterrupt, State.withInterrupt_acq, State.holdStart_withInterrupt,
      State.checkStart_withInterrupt]
    split
    · exact .kept fun _ => rfl
    · split <;> exact .kept fun _ => rfl
  | startTaken =>
    refine ⟨_, fun _ => rfl, ?_⟩
    simp only [State.holdStart_withInterrupt]
    exact .branch_kept (fun _ => rfl) (fun _ => rfl) fun _ => rfl
  | stop =>
    refine ⟨_, fun _ => rfl, ?_⟩
    simp only [State.dispatched_withInterrupt, State.withInterrupt_acq]
    split
    · exact .kept fun _ => rfl
    · split <;> exact .kept fun _ => rfl
  | cancel =>
    refine ⟨_, fun _ => rfl, ?_⟩
    simp only [State.dispatched_withInterrupt, State.withInterrupt_cap]
    split
    · exact .kept fun _ => rfl
    · split
      · exact .branch_kept (fun _ => rfl) (fun _ => rfl) fun _ => rfl
      · exact .kept fun _ => rfl

/-- What a command can do, with INTERRUPT as it is and with any other content (R123, R124, R126, R128). -/
theorem exec_interrupt_of_next {c : Instr} {s t : State} (h : exec c s = .next t) :
    (∀ x, ∃ y, exec c (s.withInterrupt x) = .next (t.withInterrupt y)) ∧
    (s.evt.interrupt.events = false → t.evt.interrupt.events = true →
      s.ctl.device = .enabled ∧ t.evt.moderation = 0 ∧ t.evt.holdoffTimer = none) ∧
    (s.evt.interrupt.fault = false → t.evt.interrupt.fault = true → t.ctl.device = .faulted) := by
  obtain ⟨run, hrun, u, f, hu, hevents, hfault⟩ := exec_interruptEffect c s
  obtain rfl : t = u.withInterrupt (f s.evt.interrupt) := by
    rw [← hu]
    exact Host.Outcome.next.inj (h.symm.trans (hrun s.evt.interrupt))
  exact ⟨fun x => ⟨f x, (hrun x).trans (congrArg _ (hu x))⟩, hevents _, hfault _⟩

/-! ### INTERRUPT as it is read and written -/

theorem regBit_getLsbD (b : Bool) {i : Nat} (hi : i < 32) (j : Nat) :
    (regBit b i).getLsbD j = (b && decide (j = i)) := by
  cases b with
  | false => simp [regBit]
  | true =>
    have bit : (regBit true i).getLsbD j = (decide (j < 32) && decide (i = j)) := by
      simp only [regBit, if_true, BitVec.getLsbD_ofNat, Nat.testBit_two_pow]
    rw [bit, Bool.true_and, ← Bool.decide_and, decide_eq_decide]
    omega

theorem State.readRegister_interrupt_getLsbD {s : State} (h : s.resetAsserted = false) (i : Nat) :
    (s.readRegister .interrupt).getLsbD i =
      ((s.evt.interrupt.events && decide (i = 0)) || (s.evt.interrupt.fault && decide (i = 1)) ||
        (s.evt.interrupt.eventsMask && decide (i = 8)) || (s.evt.interrupt.faultMask && decide (i = 9))) := by
  simp [State.readRegister, h, regBit_getLsbD]

theorem Interrupt.write_eq (v : Word) (i : Interrupt) :
    i.write v =
      { events := if v.getLsbD 0 then false else i.events
        fault := if v.getLsbD 1 then false else i.fault
        eventsMask := v.getLsbD 8
        faultMask := v.getLsbD 9 } := by
  cases h0 : v.getLsbD 0 <;> cases h1 : v.getLsbD 1 <;> simp only [Interrupt.write, h0, h1] <;> simp

/-- Settles O40: a read is taken bit by bit, a write by its equation, and `State.InterruptEffect` bounds what any
command does to INTERRUPT and with what it holds. -/
theorem interruptWritten : Obligations.InterruptWritten := by
  refine ⟨fun s hpin => ?read, fun c s t x h => (exec_interrupt_of_next h).1 x,
    fun c s t h => (exec_interrupt_of_next h).2, fun s v hpin => ?write⟩
  case read =>
    simp only [State.readRegister_interrupt_getLsbD hpin]
    refine ⟨by simp, by simp, by simp, by simp, fun i h0 h1 h8 h9 => ?_⟩
    simp [h0, h1, h8, h9]
  case write =>
    rw [exec_interruptWrite_running hpin, Interrupt.write_eq]
    rfl

end Sys2Proof.Machine
end

/-! PROOFS. What a command can do, said once: `State.Event` lists the events of the part with their guards and the state
each leaves, and `State.Delivered` what the owner of a Request Table entry does with an answer. -/

section
namespace Sys2Proof.Machine

/-! ### Answers at their owners -/

/-- What an answer to the requester `q` can do at its owner (R155, R157), with the guards under which it does it. -/
inductive State.Delivered (s : State) (tag : Tag) (ans : Answer) (data : ReadData) : Requester → State → Prop
  | setupAbsorbed : s.ctl.device ≠ .starting →
      s.Delivered tag ans data .control (s.withCtl { s.ctl with setupRequest := .none })
  | setupFailed (code : FaultCode) : s.ctl.device = .starting →
      (ans = .error ∧ code = .setupRead) ∨ (ans = .ok ∧ (setupOf data).legal = false ∧ code = .setupInvalid) →
      s.Delivered tag ans data .control ((s.withCtl { s.ctl with setupRequest := .none }).enterFaulted code)
  | setupTaken : s.ctl.device = .starting → ans = .ok → (setupOf data).legal = true →
      s.Delivered tag ans data .control ((s.withCtl { s.ctl with setupRequest := .none }).enterEnabled (setupOf data))
  | commandAbsorbed : (s.ctl.device ≠ .enabled ∨ s.cmd.state = .idle ∨ s.cmd.state = .posting) →
      s.Delivered tag ans data .command (s.withCmd { s.cmd with link := .none })
  | recordTaken : s.ctl.device = .enabled → s.cmd.state = .fetching → ans = .ok →
      s.Delivered tag ans data .command (s.withCmd (s.cmd.take (commandRecordOf data)))
  | recordFailed : s.ctl.device = .enabled → s.cmd.state = .fetching → ans = .error →
      s.Delivered tag ans data .command ((s.withCmd { s.cmd with state := .idle, link := .none }).enterFaulted .cqRead)
  | snapshotAnswered : s.ctl.device = .enabled → s.cmd.state = .executing →
      s.Delivered tag ans data .command (s.snapshotWritten ans)
  | batchAbsorbed : (s.ctl.device ≠ .enabled ∨ s.fetch.batch = none) →
      s.Delivered tag ans data .fetcher (s.withFetch { s.fetch with fetch := .idle, batch := none })
  | batchTaken (b : Batch) : s.ctl.device = .enabled → s.fetch.batch = some b → ans = .ok →
      s.Delivered tag ans data .fetcher (s.bqRead b .ok data)
  | batchFailed (b : Batch) : s.ctl.device = .enabled → s.fetch.batch = some b → ans = .error →
      s.Delivered tag ans data .fetcher
        ((s.withFetch { s.fetch with fetch := .idle, batch := none }).enterFaulted .bqRead)
  | eventAbsorbed : s.ctl.device ≠ .enabled → s.ctl.device ≠ .faulted →
      s.Delivered tag ans data .writer (s.withEvt { s.evt with inFlight := none, request := .none })
  | eventWritten : s.ctl.device = .enabled → ans = .ok → s.Delivered tag ans data .writer (s.eqWritten .ok)
  | eventFailed : s.ctl.device = .enabled → ans = .error →
      s.Delivered tag ans data .writer
        ((s.withEvt { s.evt with inFlight := none, request := .none }).enterFaulted .eqWrite)
  | eventWrittenFaulted : s.ctl.device = .faulted → ans = .ok →
      s.Delivered tag ans data .writer (s.withEvt s.evt.advance)
  | eventFailedFaulted : s.ctl.device = .faulted → ans = .error →
      s.Delivered tag ans data .writer
        ((s.withEvt { s.evt with inFlight := none, request := .none }).setFault.withCtl { s.ctl with multi := true })
  | burstAnswered (i : SlotId) : s.ctl.device = .enabled →
      s.Delivered tag ans data (.slot i) (s.setSlot i ((s.slot i).onResponse s.acq tag ans)).checkStart
  | burstAnsweredFaulted (i : SlotId) : s.ctl.device = .faulted →
      s.Delivered tag ans data (.slot i) (s.setSlot i ((s.slot i).onResponseFaulted tag ans))
  | burstAnsweredLeaving (i : SlotId) : (s.ctl.device = .stopping ∨ s.ctl.device = .resetting) →
      s.Delivered tag ans data (.slot i) (s.setSlot i (s.slot i).onResponseLeaving)
  | burstDropped (i : SlotId) : (s.ctl.device = .disabled ∨ s.ctl.device = .starting) →
      s.Delivered tag ans data (.slot i) s

theorem State.fatal_of_starting {s : State} (h : s.ctl.device = .starting) (code : FaultCode) :
    s.fatal code = s.enterFaulted code := by
  simp [State.fatal, h]

theorem State.fatal_of_enabled {s : State} (h : s.ctl.device = .enabled) (code : FaultCode) :
    s.fatal code = s.enterFaulted code := by
  simp [State.fatal, h]

theorem State.fatal_of_faulted {s : State} (h : s.ctl.device = .faulted) (code : FaultCode) :
    s.fatal code = s.setFault.withCtl { s.ctl with multi := true } := by
  unfold State.fatal
  rw [h]

theorem State.delivered_toControl (s : State) (tag : Tag) (ans : Answer) (data : ReadData) :
    s.Delivered tag ans data .control (s.toControl ans data) := by
  unfold State.toControl
  split
  next hd =>
    have failed (code : FaultCode) := State.fatal_of_starting (s := s.withCtl { s.ctl with setupRequest := .none }) hd code
    cases ans with
    | error =>
      dsimp only
      rw [failed]
      exact .setupFailed _ hd (.inl ⟨rfl, rfl⟩)
    | ok =>
      dsimp only
      cases hl : (setupOf data).legal with
      | true => exact .setupTaken hd rfl hl
      | false =>
        rw [if_neg (by decide), failed]
        exact .setupFailed _ hd (.inr ⟨rfl, hl, rfl⟩)
  next hd => exact .setupAbsorbed hd

theorem State.delivered_toCommand (s : State) (tag : Tag) (ans : Answer) (data : ReadData) :
    s.Delivered tag ans data .command (s.toCommand ans data) := by
  unfold State.toCommand
  split
  next hd =>
    cases hs : s.cmd.state with
    | fetching =>
      cases ans with
      | ok => exact .recordTaken hd hs rfl
      | error =>
        simp only [State.cqRead]
        rw [State.fatal_of_enabled (s := s.withCmd { s.cmd with state := .idle, link := .none }) hd]
        exact .recordFailed hd hs rfl
    | executing => exact .snapshotAnswered hd hs
    | idle => exact .commandAbsorbed (.inr (.inl hs))
    | posting => exact .commandAbsorbed (.inr (.inr hs))
  next hd => exact .commandAbsorbed (.inl hd)

theorem State.delivered_toFetcher (s : State) (tag : Tag) (ans : Answer) (data : ReadData) :
    s.Delivered tag ans data .fetcher (s.toFetcher ans data) := by
  unfold State.toFetcher
  split
  next b hd hb =>
    cases ans with
    | ok => exact .batchTaken b hd hb rfl
    | error =>
      simp only [State.bqRead]
      rw [State.fatal_of_enabled (s := s.withFetch { s.fetch with fetch := .idle, batch := none }) hd]
      exact .batchFailed b hd hb rfl
  next h =>
    refine .batchAbsorbed ?_
    by_cases hd : s.ctl.device = .enabled
    · exact .inr (Option.eq_none_iff_forall_ne_some.2 fun b hb => h b hd hb)
    · exact .inl hd

theorem State.delivered_toWriter (s : State) (tag : Tag) (ans : Answer) (data : ReadData) :
    s.Delivered tag ans data .writer (s.toWriter ans) := by
  unfold State.toWriter
  cases hd : s.ctl.device with
  | enabled =>
    cases ans with
    | ok => exact .eventWritten hd rfl
    | error =>
      simp only [State.eqWritten]
      rw [State.fatal_of_enabled (s := s.withEvt { s.evt with inFlight := none, request := .none }) hd]
      exact .eventFailed hd rfl
  | faulted =>
    cases ans with
    | ok => exact .eventWrittenFaulted hd rfl
    | error =>
      dsimp only
      rw [State.fatal_of_faulted (s := s.withEvt { s.evt with inFlight := none, request := .none }) hd]
      exact .eventFailedFaulted hd rfl
  | disabled | starting | stopping | resetting => exact .eventAbsorbed (by simp [hd]) (by simp [hd])

theorem State.delivered_toSlot (s : State) (i : SlotId) (tag : Tag) (ans : Answer) (data : ReadData) :
    s.Delivered tag ans data (.slot i) (s.toSlot i tag ans) := by
  unfold State.toSlot
  cases hd : s.ctl.device with
  | enabled => exact .burstAnswered i hd
  | faulted => exact .burstAnsweredFaulted i hd
  | stopping => exact .burstAnsweredLeaving i (.inl hd)
  | resetting => exact .burstAnsweredLeaving i (.inr hd)
  | disabled => exact .burstDropped i (.inl hd)
  | starting => exact .burstDropped i (.inr hd)

theorem State.delivered (s : State) (q : Requester) (tag : Tag) (ans : Answer) (data : ReadData) :
    s.Delivered tag ans data q (s.deliver q tag ans data) := by
  cases q with
  | control => exact s.delivered_toControl tag ans data
  | command => exact s.delivered_toCommand tag ans data
  | fetcher => exact s.delivered_toFetcher tag ans data
  | writer => exact s.delivered_toWriter tag ans data
  | slot i => exact s.delivered_toSlot i tag ans data

/-! ### Events -/

/-- What a command that ends an ACTIVE entry leaves of it: a response leaves it FREE, and the expiry leaves it STALE (R155,
R157). -/
def EndsEntry (c : Instr) (tag : Tag) (size : Nat) (e : Option Tick) (x : PortEntry) : Prop :=
  (answeredTag c = some tag ∧ x = .free) ∨
    (c = .responseLimitExpiry tag ∧ ∃ d, e = some d ∧ x = .stale size (some d))

/-- A command that writes a tail or a head out of range, with the fault code it reports (R98, R119, R134). -/
def RangeWrite (c : Instr) (code : FaultCode) : Prop :=
  (∃ v, c = .cqTailWrite v ∧ code = .cqTailRange) ∨ (∃ v, c = .bqTailWrite v ∧ code = .bqTailRange) ∨
    ∃ v, c = .eqHeadWrite v ∧ code = .eqHeadRange

/-- The events of the part: what a command can do in a state, each with its guards and the state it leaves. -/
inductive State.Event (s : State) : Instr → State → Prop
  | stays (c : Instr) : s.Event c s
  | arrived (word : Word) : s.acceptsEdge = true → s.Event (.sampleArrival word) (s.arrive word)
  | evaluated (p : PresentedSample) : s.ctl.device = .enabled → s.eng.presented = some p →
      s.eng.noticeWaiting = false → s.Event (.sampleEvaluation .whole) (s.evaluateSample p)
  | evaluationBegun (p : PresentedSample) : s.ctl.device = .enabled → s.eng.presented = some p →
      s.eng.noticeWaiting = false → s.Event (.sampleEvaluation .begins) (s.withEng { s.eng with begun := true })
  | noticeTaken : s.ctl.device = .enabled → s.eng.noticeWaiting = true → s.eng.begun = false →
      s.Event .startOfRunNotice (s.withEng s.eng.takeNotice)
  | expiryRaised (w : WatchId) : s.ctl.device = .enabled → (s.watch w).state = .live →
      (s.watch w).expiryReached s.tick = true →
      s.Event (.expiryRaised w) (s.setWatch w { s.watch w with expiryRaised := true })
  | windowEnded (w : WatchId) : s.ctl.device = .enabled → s.eng.begun = false → (s.watch w).state = .live →
      (s.watch w).expiryRaised = true →
      s.Event (.windowExpiry w) (s.watchDone w (s.watch w).config.mode.expiryReason)
  | refused (c : Instr) (k : CommandKind) (cur : CurrentCommand) (st : CmdStatus) : k ≠ .snapshot →
      (k = .cancel → s.cap.cancelling = none) → (k = .start → s.acq.state = .running) →
      s.dispatched k = some cur → s.Event c (s.complete st)
  | loaded (cur : CurrentCommand) (w : WatchId) (cfg : WatchConfig) : s.dispatchedWatch .load = some (cur, w) →
      s.eng.judgeLoad w cur.record = (.ok, some cfg) →
      s.Event .load ((s.setWatch w ((s.watch w).loaded cfg)).complete .ok)
  | armed (cur : CurrentCommand) (w : WatchId) : s.dispatchedWatch .arm = some (cur, w) → (s.watch w).state = .idle →
      s.Event .arm ((s.setWatch w ((s.watch w).armed s.tick)).complete .ok)
  | disarmed (cur : CurrentCommand) (w : WatchId) : s.dispatchedWatch .disarm = some (cur, w) →
      (s.watch w).state = .pending ∨ (s.watch w).state = .live →
      s.Event .disarm ((s.watchDone w .disarmed).complete .ok)
  | freed (cur : CurrentCommand) (w : WatchId) : s.dispatchedWatch .free = some (cur, w) → (s.watch w).state = .idle →
      hasSuccessor s.eng.watches w = false →
      s.Event .free ((s.setWatch w .freeContext).complete .ok)
  | snapshotTaken (cur : CurrentCommand) (w : WatchId) : s.dispatchedWatch .snapshot = some (cur, w) →
      s.cmd.snapshot = none →
      s.Event .snapshot
        (s.withCmd
          { s.cmd with snapshot := some ((s.watch w).snapshot w s.eng.lastEvaluated s.tick), link := .standing })
  | startHeld (c : Instr) (cur : CurrentCommand) : s.dispatched .start = some cur → s.acq.state = .idle →
      s.Event c (s.withAcq { s.acq with heldStart := true }).checkStart
  | startTaken : s.startReady = true → s.Event .startTaken s.takeStart
  | stopped (cur : CurrentCommand) : s.dispatched .stop = some cur → s.acq.state = .running →
      s.Event .stop
        (((s.withAcq { s.acq with state := .idle }).withCap
          (s.cap.onEndOfRun { s.acq with state := .idle } s.acq.newest)).complete .ok)
  | cancelTaken (cur : CurrentCommand) (named : List SlotId) : s.dispatched .cancel = some cur →
      slotsOf cur.record.slot = some named → s.cap.cancelling = none → s.cap.targets named ≠ [] →
      s.Event .cancel
        (s.withCap
          { s.cap with
            slots := tmap (fun i sl => sl.onCancel (decide (i ∈ s.cap.targets named))) s.cap.slots
            cancelling := some { targets := s.cap.targets named, status := s.cap.cancelStatus (s.cap.targets named) } })
  | granted (q : Requester) (tag : Tag) : s.ctl.device = .starting ∨ s.ctl.device = .enabled →
      s.nextRequester = some q → s.port.freeTag = some tag → s.Event .grant (s.issueGrant q tag)
  | lateTaken (c : Instr) (tag : Tag) (size : Nat) (e : Option Tick) : answeredTag c = some tag →
      s.entry tag = .stale size e → s.Event c (s.setEntry tag .free)
  | entryEnded (c : Instr) (q : Requester) (tag : Tag) (size : Nat) (e : Option Tick) (x : PortEntry) (ans : Answer)
      (data : ReadData) (t : State) : s.entry tag = .active q size e → EndsEntry c tag size e x →
      (s.setEntry tag x).Delivered tag ans data q t → s.Event c t.endPassage
  | chosen (x : EventContent) : s.mayChoose = true → s.offer = some x → s.Event .eventChoice (s.choose x)
  | holdoffEnded (e : Tick) : s.ctl.device = .enabled → s.evt.holdoffTimer = some e →
      s.Event .holdoffExpiry
        (s.withEvt
          { s.evt with
            holdoffTimer := none
            moderation := 0
            interrupt := { s.evt.interrupt with events := s.evt.interrupt.events || decide (0 < s.evt.moderation) } })
  | rangeFault (c : Instr) (code : FaultCode) : s.ctl.device = .enabled → RangeWrite c code →
      s.Event c (s.enterFaulted code)
  | cqTailRaised (v : Word) : s.ctl.device = .enabled → v.toNat < s.cmd.size →
      s.Event (.cqTailWrite v) (s.withCmd { s.cmd with tail := v.toNat }).checkCommandFetch
  | bqTailRaised (v : Word) : s.ctl.device = .enabled → v.toNat < s.fetch.size →
      s.Event (.bqTailWrite v) (s.withFetch { s.fetch with tail := v.toNat }).checkBufferFetch
  | eqHeadMoved (v : Word) : s.ctl.device = .enabled → v.toNat < s.evt.size →
      ringDistance s.evt.size v.toNat s.evt.tail ≤ s.evt.fill →
      s.Event (.eqHeadWrite v) (s.withEvt { s.evt with head := v.toNat })
  | interruptWritten (v : Word) :
      s.Event (.interruptWrite v) (s.withEvt { s.evt with interrupt := s.evt.interrupt.write v })
  | setupAddressWritten (reg : PlainRegister) (v : Word) (a : Addr) : s.ctl.device = .disabled →
      s.Event (.registerWrite reg v) (s.withCtl { s.ctl with setupAddress := a })
  | enabledWritten (c : Instr) (v : Word) : controlValue c = some v → v.getLsbD 1 = false → v.getLsbD 0 = true →
      s.ctl.device = .disabled → s.Event c s.enterStarting
  | resetWritten (c : Instr) (v : Word) : controlValue c = some v → v.getLsbD 1 = true → s.ctl.device ≠ .resetting →
      s.Event c (s.leave .resetting)
  | disabledWritten (c : Instr) (v : Word) : controlValue c = some v → v.getLsbD 1 = false → v.getLsbD 0 = false →
      s.ctl.device = .starting ∨ s.ctl.device = .enabled ∨ s.ctl.device = .faulted → s.Event c (s.leave .stopping)
  | pinMoved (c : Instr) (level : Bool) : s.pinActs c → s.Event c (s.powerOn level)
  | ticked : s.resetAsserted = false → s.Event .refclkTick (s.endDueEvaluation.withTick (s.tick + 1))

theorem State.event_takeResponse (s : State) {c : Instr} (r : Response) (hc : answeredTag c = some r.tag) :
    s.Event c (s.takeResponse r) := by
  obtain ⟨-, h⟩ | ⟨size, e, he, h⟩ | ⟨q, size, e, he, h⟩ := s.takeResponse_cases r
  · rw [h]; exact .stays c
  · rw [h]; exact .lateTaken c _ _ _ hc he
  · rw [h]; exact .entryEnded c q _ _ _ _ _ _ _ he (.inl ⟨hc, rfl⟩) (State.delivered _ _ _ _ _)

theorem State.event_takeExpiry (s : State) (tag : Tag) : s.Event (.responseLimitExpiry tag) (s.takeExpiry tag) := by
  obtain ⟨q, size, e, he, -, h⟩ | ⟨-, h⟩ := s.takeExpiry_cases tag
  · rw [h]; exact .entryEnded _ q _ _ _ _ _ _ _ he (.inr ⟨rfl, e, rfl, rfl⟩) (State.delivered _ _ _ _ _)
  · rw [h]; exact .stays _

theorem State.event_writeControl (s : State) {c : Instr} (v : Word) (hc : controlValue c = some v) :
    s.Event c (s.writeControl v) := by
  unfold State.writeControl
  split
  next => exact .stays c
  next =>
    split
    next hreset =>
      split
      next => exact .stays c
      next hd => exact .resetWritten c v hc hreset hd
    next hreset =>
      have hreset : v.getLsbD 1 = false := by simpa using hreset
      split
      next henable =>
        split
        next hd => exact .enabledWritten c v hc hreset henable hd
        next => exact .stays c
      next henable =>
        have henable : v.getLsbD 0 = false := by simpa using henable
        cases hd : s.ctl.device with
        | starting => exact .disabledWritten c v hc hreset henable (.inl hd)
        | enabled => exact .disabledWritten c v hc hreset henable (.inr (.inl hd))
        | faulted => exact .disabledWritten c v hc hreset henable (.inr (.inr hd))
        | disabled | stopping | resetting => exact .stays c

/-! ### The watch commands and the sample path -/

/-- A LOAD is accepted with OK and a configuration, or refused without one (R10). -/
theorem WatchEngine.judgeLoad_cases (e : WatchEngine) (w : WatchId) (r : CommandRecord) :
    (∃ st, e.judgeLoad w r = (st, none)) ∨ ∃ cfg, e.judgeLoad w r = (.ok, some cfg) := by
  unfold WatchEngine.judgeLoad
  split
  · cases r.config with
    | none => exact .inl ⟨_, rfl⟩
    | some cfg =>
      dsimp only
      cases predecessorRefusal e.watches w cfg.predecessor with
      | none => exact .inr ⟨cfg, rfl⟩
      | some st => exact .inl ⟨st, rfl⟩
  · exact .inl ⟨_, rfl⟩

/-- A watch command that its watch's state refuses. -/
theorem State.event_refused_of_watch {s : State} {k : CommandKind} {cur : CurrentCommand} {w : WatchId} (c : Instr)
    (hk : k.namesWatch = true) (hs : k ≠ .snapshot) (h : s.dispatchedWatch k = some (cur, w)) (st : CmdStatus) :
    s.Event c (s.complete st) := by
  obtain ⟨-, hdisp, -⟩ := State.dispatchedWatch_eq_some.1 h
  exact .refused c k cur st hs (fun e => by subst e; cases hk) (fun e => by subst e; cases hk) hdisp

theorem State.event_startHeld {s : State} (c : Instr) {cur : CurrentCommand} (h : s.dispatched .start = some cur)
    (hidle : s.acq.state = .idle) : s.Event c s.holdStart.checkStart := by
  obtain ⟨-, -, e⟩ | ⟨hno, -⟩ := s.holdStart_cases
  · rw [e]; exact .startHeld c cur h hidle
  · exact absurd hidle (hno cur h)

/-- Every command completes, and what it does is one of the events. -/
theorem exec_event (c : Instr) (s : State) : ∃ t, exec c s = .next t ∧ s.Event c t := by
  cases c with
  | cqReadResponse r | snapshotWriteResponse r | burstWriteResponse r | bqReadResponse r | setupReadResponse r
  | lateResponse r | eqWriteResponse r => exact ⟨_, rfl, s.event_takeResponse r rfl⟩
  | nop tag record => exact ⟨_, rfl, s.event_takeResponse _ rfl⟩
  | responseLimitExpiry tag => exact ⟨_, rfl, s.event_takeExpiry tag⟩
  | enable v | disable v | softReset v => exact ⟨_, rfl, s.event_writeControl v rfl⟩
  | resetPinAsserted n =>
    refine ⟨_, rfl, ?_⟩
    split
    next h => exact .pinMoved _ _ (.inl ⟨n, rfl, h⟩)
    next => exact .stays _
  | resetPinReleased =>
    refine ⟨_, rfl, ?_⟩
    split
    next h => exact .pinMoved _ _ (.inr ⟨rfl, h⟩)
    next => exact .stays _
  | refclkTick =>
    refine ⟨_, rfl, ?_⟩
    split
    next => exact .stays _
    next h => exact .ticked (by simpa using h)
  | sampleArrival word =>
    refine ⟨_, rfl, ?_⟩
    split
    next h => exact .arrived word h
    next => exact .stays _
  | sampleEvaluation extent =>
    refine ⟨_, rfl, ?_⟩
    split
    next => exact .stays _
    next p hp =>
      split
      next h =>
        cases extent with
        | whole => exact .evaluated p h.1 hp h.2
        | begins => exact .evaluationBegun p h.1 hp h.2
      next => exact .stays _
  | startOfRunNotice =>
    refine ⟨_, rfl, ?_⟩
    split
    next h =>
      obtain ⟨hd, hwaits, hbegun⟩ := h
      exact .noticeTaken hd hwaits hbegun
    next => exact .stays _
  | expiryRaised w =>
    refine ⟨_, rfl, ?_⟩
    split
    next h =>
      obtain ⟨hd, hlive, hreached⟩ := h
      exact .expiryRaised w hd hlive hreached
    next => exact .stays _
  | windowExpiry w =>
    refine ⟨_, rfl, ?_⟩
    split
    next h =>
      obtain ⟨hd, hbegun, hlive, hraised⟩ := h
      exact .windowEnded w hd hbegun hlive hraised
    next => exact .stays _
  | load =>
    refine ⟨_, rfl, ?_⟩
    split
    next => exact .stays _
    next cur w hdisp =>
      obtain ⟨st, hj⟩ | ⟨cfg, hj⟩ := s.eng.judgeLoad_cases w cur.record
      · rw [hj]; exact s.event_refused_of_watch _ rfl (by decide) hdisp _
      · rw [hj]; exact .loaded cur w cfg hdisp hj
  | arm =>
    refine ⟨_, rfl, ?_⟩
    split
    next => exact .stays _
    next cur w hdisp =>
      split
      next h => exact .armed cur w hdisp h
      next => exact s.event_refused_of_watch _ rfl (by decide) hdisp _
  | disarm =>
    refine ⟨_, rfl, ?_⟩
    split
    next => exact .stays _
    next cur w hdisp =>
      split
      next h => exact .disarmed cur w hdisp h
      next => exact s.event_refused_of_watch _ rfl (by decide) hdisp _
  | free =>
    refine ⟨_, rfl, ?_⟩
    split
    next => exact .stays _
    next cur w hdisp =>
      split
      next => exact s.event_refused_of_watch _ rfl (by decide) hdisp _
      next hidle =>
        split
        next => exact s.event_refused_of_watch _ rfl (by decide) hdisp _
        next hsucc => exact .freed cur w hdisp (not_not.1 hidle) (by simpa using hsucc)
  | snapshot =>
    refine ⟨_, rfl, ?_⟩
    split
    next => exact .stays _
    next cur w hdisp =>
      split
      next h => exact .snapshotTaken cur w hdisp h
      next => exact .stays _
  | start =>
    refine ⟨_, rfl, ?_⟩
    split
    next => exact .stays _
    next cur hdisp =>
      split
      next h => exact .refused _ .start cur _ (by decide) (by simp) (fun _ => h) hdisp
      next h => exact s.event_startHeld _ hdisp h
  | startTaken =>
    refine ⟨_, rfl, ?_⟩
    split
    next hready =>
      obtain ⟨⟨cur, hdisp⟩, hidle, e⟩ | ⟨-, e⟩ := s.holdStart_cases
      · have : s.holdStart.takeStart = s.holdStart.checkStart := by simp [State.checkStart, hready]
        rw [this]
        exact s.event_startHeld _ hdisp hidle
      · rw [e] at hready ⊢
        exact .startTaken hready
    next => exact .stays _
  | stop =>
    refine ⟨_, rfl, ?_⟩
    split
    next => exact .stays _
    next cur hdisp =>
      split
      next h => exact .refused _ .stop cur _ (by decide) (by simp) (by simp) hdisp
      next h => exact .stopped cur hdisp h
  | cancel =>
    refine ⟨_, rfl, ?_⟩
    split
    next => exact .stays _
    next cur hdisp =>
      split
      next named hnone hnamed =>
        dsimp only
        split
        next => exact .refused _ .cancel cur _ (by decide) (fun _ => hnone) (by simp) hdisp
        next h => exact .cancelTaken cur named hdisp hnamed hnone h
      next => exact .stays _
  | grant =>
    refine ⟨_, rfl, ?_⟩
    obtain ⟨q, tag, hd, hq, htag, h⟩ | h := s.makeGrant_cases
    · rw [h]; exact .granted q tag hd hq htag
    · rw [h]; exact .stays _
  | eventChoice =>
    refine ⟨_, rfl, ?_⟩
    split
    next hmay =>
      split
      next x hx => exact .chosen x hmay hx
      next => exact .stays _
    next => exact .stays _
  | holdoffExpiry =>
    refine ⟨_, rfl, ?_⟩
    split
    next => exact .stays _
    next e he =>
      split
      next h => exact .holdoffEnded e h.1 he
      next => exact .stays _
  | cqTailWrite v =>
    refine ⟨_, rfl, ?_⟩
    split
    next h =>
      unfold judgeTail
      split_ifs with hsize hless hsame
      · rw [State.fatal_of_enabled h.1]; exact .rangeFault _ _ h.1 (.inl ⟨v, rfl, rfl⟩)
      · rw [State.fatal_of_enabled h.1]; exact .rangeFault _ _ h.1 (.inl ⟨v, rfl, rfl⟩)
      · exact .stays _
      · exact .cqTailRaised v h.1 (by omega)
    next => exact .stays _
  | bqTailWrite v =>
    refine ⟨_, rfl, ?_⟩
    split
    next h =>
      unfold judgeTail
      split_ifs with hsize hless hsame
      · rw [State.fatal_of_enabled h.1]; exact .rangeFault _ _ h.1 (.inr (.inl ⟨v, rfl, rfl⟩))
      · rw [State.fatal_of_enabled h.1]; exact .rangeFault _ _ h.1 (.inr (.inl ⟨v, rfl, rfl⟩))
      · exact .stays _
      · exact .bqTailRaised v h.1 (by omega)
    next => exact .stays _
  | eqHeadWrite v =>
    refine ⟨_, rfl, ?_⟩
    split
    next h =>
      split
      next => rw [State.fatal_of_enabled h.1]; exact .rangeFault _ _ h.1 (.inr (.inr ⟨v, rfl, rfl⟩))
      next hv =>
        simp only [not_or, Nat.not_le, Nat.not_lt] at hv
        exact .eqHeadMoved v h.1 hv.1 hv.2
    next => exact .stays _
  | interruptWrite v =>
    refine ⟨_, rfl, ?_⟩
    split
    next => exact .stays _
    next => exact .interruptWritten v
  | registerWrite reg v =>
    refine ⟨_, rfl, ?_⟩
    split
    next h =>
      cases reg with
      | setupLo | setupHi => exact .setupAddressWritten _ v _ h.1
      | status => exact .stays _
    next => exact .stays _

theorem State.event_of_exec {c : Instr} {s t : State} (h : exec c s = .next t) : s.Event c t := by
  obtain ⟨u, hu, hev⟩ := exec_event c s
  rwa [← Host.Outcome.next.inj (hu.symm.trans h)]

end Sys2Proof.Machine
end


/-! PROOFS. The shared operations once more: what each leaves unchanged, and who offers an event. -/

section
namespace Sys2Proof.Machine

/-! ### Offers of the five sources -/

/-- The CAPTURE_DONE content of a slot (R92). -/
theorem Slot.captureDone_eq_some {sl : Slot} {i : SlotId} {d : CaptureDone} :
    sl.captureDone i = some d ↔ sl.state = .posting ∧ ∃ st, sl.status = some st ∧
      d = { slot := i, watch := sl.watch, bufferTag := sl.bufferTag, status := st, trigger := sl.trigger,
            firstSample := sl.windowStart, entryCount := sl.leading } := by
  unfold Slot.captureDone
  split
  next h => simp [h, eq_comm]
  next h => simp [h]

theorem Slot.captureDone_eq_none {sl : Slot} {i : SlotId} :
    sl.captureDone i = none ↔ (sl.state = .posting → sl.status = none) := by
  unfold Slot.captureDone
  split
  next h => simp [h]
  next h => simp [h]

/-- The slot offered is in POSTING, and the content is its own (R110). -/
theorem CaptureUnit.offer_eq_some {c : CaptureUnit} {d : CaptureDone} (h : c.offer = some d) :
    (tget c.slots d.slot).captureDone d.slot = some d := by
  obtain ⟨i, -, hi⟩ := List.exists_of_findSome?_eq_some h
  obtain ⟨-, st, -, e⟩ := Slot.captureDone_eq_some.1 hi
  have hslot : d.slot = i := by rw [e]
  rwa [hslot]

theorem CaptureUnit.offer_eq_none {c : CaptureUnit} :
    c.offer = none ↔ ∀ i, (tget c.slots i).state = .posting → (tget c.slots i).status = none := by
  simp only [CaptureUnit.offer, List.findSome?_eq_none_iff, List.mem_finRange, true_implies, Slot.captureDone_eq_none]

/-- An item is offered by the first source in rank that has one (R110). -/
inductive State.Offered (s : State) : EventContent → Prop
  | captureDone (d : CaptureDone) : s.cap.offer = some d → s.Offered (.captureDone d)
  | acqHalt (h : HaltRecord) : s.cap.offer = none → s.acq.pendingHalt = some h → s.Offered (.acqHalt h)
  | cmdDone (d : CmdDone) : s.cap.offer = none → s.acq.pendingHalt = none → s.cmd.held = some d →
      s.Offered (.cmdDone d)
  | bufferReject (r : Rejection) (rest : List Rejection) : s.cap.offer = none → s.acq.pendingHalt = none →
      s.cmd.held = none → s.fetch.rejections = r :: rest → s.Offered (.bufferReject r)
  | watchReport (w : WatchId) (rest : List WatchId) : s.cap.offer = none → s.acq.pendingHalt = none →
      s.cmd.held = none → s.fetch.rejections = [] → s.eng.reportList = w :: rest → s.eng.begun = false →
      s.Offered (.watchReport ((s.watch w).report w))

theorem State.offer_eq_some {s : State} {x : EventContent} : s.offer = some x ↔ s.Offered x := by
  constructor
  · intro h
    unfold State.offer at h
    split at h
    next d hc => cases h; exact .captureDone d hc
    next r hc ha => cases h; exact .acqHalt r hc ha
    next d hc ha hd => cases h; exact .cmdDone d hc ha hd
    next r rest hc ha hd hr => cases h; exact .bufferReject r rest hc ha hd hr
    next w rest hc ha hd hr hw =>
      split at h
      next => cases h
      next hb => cases h; exact .watchReport w rest hc ha hd hr hw (eq_false_of_ne_true hb)
    next => cases h
  · intro h
    unfold State.offer
    cases h with
    | captureDone d hc => simp [hc]
    | acqHalt r hc ha => simp [hc, ha]
    | cmdDone d hc ha hd => simp [hc, ha, hd]
    | bufferReject r rest hc ha hd hr => simp [hc, ha, hd, hr]
    | watchReport w rest hc ha hd hr hw hb => simp [hc, ha, hd, hr, hw, hb]

theorem State.mayChoose_iff {s : State} :
    s.mayChoose = true ↔ s.ctl.device = .enabled ∧ s.evt.inFlight = none ∧ s.evt.fill < s.evt.size - 1 := by
  simp [State.mayChoose, and_assoc]

/-! ### What the choice of an item leaves -/

/-- The choice of a CAPTURE_DONE: the slot becomes FREE, and a waiting CANCEL loses its last target, another target, or none
(R91, R87). -/
theorem State.captureDoneChosen_cases (s : State) (i : SlotId) :
    (∃ p, s.cap.cancelling = some p ∧ i ∈ p.targets ∧ p.targets.filter (· ≠ i) = [] ∧
      s.captureDoneChosen i =
        (s.withCap { s.cap with slots := tset s.cap.slots i .freeSlot, cancelling := none }).complete p.status) ∨
    (∃ p, s.cap.cancelling = some p ∧ i ∈ p.targets ∧ p.targets.filter (· ≠ i) ≠ [] ∧
      s.captureDoneChosen i =
        s.withCap
          { s.cap with
            slots := tset s.cap.slots i .freeSlot
            cancelling := some { p with targets := p.targets.filter (· ≠ i) } }) ∨
    ((∀ p, s.cap.cancelling = some p → i ∉ p.targets) ∧
      s.captureDoneChosen i = s.withCap { s.cap with slots := tset s.cap.slots i .freeSlot }) := by
  unfold State.captureDoneChosen
  cases hc : s.cap.cancelling with
  | none => exact .inr (.inr ⟨fun p e => (nomatch e), rfl⟩)
  | some p =>
    dsimp only
    split
    next hi =>
      split
      next hl => exact .inl ⟨p, rfl, hi, hl, rfl⟩
      next hl => exact .inr (.inl ⟨p, rfl, hi, hl, rfl⟩)
    next hi => exact .inr (.inr ⟨fun q e => by cases e; exact hi, by rw [hc]⟩)

theorem State.captureDoneChosen_frame (s : State) (i : SlotId) :
    s.captureDoneChosen i =
      { s with
        cap := { s.cap with slots := tset s.cap.slots i .freeSlot, cancelling := (s.captureDoneChosen i).cap.cancelling }
        cmd := (s.captureDoneChosen i).cmd } := by
  obtain ⟨p, -, -, -, h⟩ | ⟨p, -, -, -, h⟩ | ⟨-, h⟩ := s.captureDoneChosen_cases i <;> rw [h] <;> rfl

theorem State.checkCommandFetch_frame (s : State) : s.checkCommandFetch = s.withCmd s.checkCommandFetch.cmd := by
  obtain ⟨-, -, -, h⟩ | ⟨-, h⟩ := s.checkCommandFetch_cases <;> rw [h] <;> rfl

/-- A grant changes the Memory Port, and what the requester is told (R152). -/
theorem State.issueGrant_frame (s : State) (q : Requester) (t : Tag) :
    s.issueGrant q t =
      (s.tellGranted t q).withPort
        { s.port with
          entries := tset s.port.entries t (.active q (s.formRequest t q).size s.grantExpiry)
          grantPointer := q
          issued := s.port.issued ++ [s.formRequest t q] } := rfl

/-- The Event Writer changes as counted and advanced, and the Command Unit may learn of its completion (R116, R145). -/
theorem State.eqWritten_ok_frame (s : State) :
    s.eqWritten .ok = { s with evt := s.evt.advance.count s.tick, cmd := (s.eqWritten .ok).cmd } := by
  rw [s.eqWritten_ok, s.eqWriteTold_frame]
  rfl

/-- A batch taken changes the Buffer Cache and the Buffer Fetcher (R102). -/
theorem State.bqRead_ok_frame (s : State) (b : Batch) (data : ReadData) :
    s.bqRead b .ok data =
      { s with
        cap := { s.cap with cache := (takeDescriptors data b.first b.length 0 (s.cap.cache, s.fetch.rejections)).1 }
        fetch := (s.bqRead b .ok data).fetch } := by
  unfold State.bqRead
  dsimp only
  rw [State.checkBufferFetch_eq]
  rfl

/-! ### The end of a passage, beside what is delivered -/

/-- An answer leaves the device state, or the part enters ENABLED or FAULTED. -/
theorem State.Delivered.device {s t : State} {tag : Tag} {ans : Answer} {data : ReadData} {q : Requester}
    (h : s.Delivered tag ans data q t) :
    t.ctl.device = s.ctl.device ∨
      (s.ctl.device = .starting ∧ t.ctl.device = .enabled) ∨
      ((s.ctl.device = .starting ∨ s.ctl.device = .enabled) ∧ t.ctl.device = .faulted) := by
  have faulted (u : State) (code : FaultCode) : (u.enterFaulted code).ctl.device = .faulted := by
    rw [u.enterFaulted_eq]
  cases h with
  | setupFailed code hd _ => exact .inr (.inr ⟨.inl hd, faulted _ _⟩)
  | setupTaken hd _ _ => exact .inr (.inl ⟨hd, rfl⟩)
  | recordFailed hd _ _ => exact .inr (.inr ⟨.inr hd, faulted _ _⟩)
  | batchFailed b hd _ _ => exact .inr (.inr ⟨.inr hd, faulted _ _⟩)
  | eventFailed hd _ => exact .inr (.inr ⟨.inr hd, faulted _ _⟩)
  | batchTaken b _ _ _ => rw [s.bqRead_ok_frame]; exact .inl rfl
  | eventWritten _ _ => rw [s.eqWritten_ok_frame]; exact .inl rfl
  | burstAnswered i _ => rw [State.checkStart_frame]; exact .inl rfl
  | _ => exact .inl rfl

theorem State.endPassage_of_not_passing {s : State} (h : s.ctl.device ≠ .stopping) (h' : s.ctl.device ≠ .resetting) :
    s.endPassage = s := by
  obtain ⟨-, hd, -⟩ | ⟨-, hd, -⟩ | ⟨-, e⟩ := s.endPassage_cases
  · exact absurd hd h
  · exact absurd hd h'
  · exact e

end Sys2Proof.Machine
end

/-! PROOFS. The Watch Table (chapter 1): the invariants of the contexts, of the Report List and of the predecessors (O9,
O10), and what changes a configuration (O8). -/

section
namespace Sys2Proof.Machine

/-! ### The configuration of an accepted LOAD record -/

/-- The value checks of R3, beside the encodings. -/
abbrev CommandRecord.ValuesLegal (r : CommandRecord) (t : TestKind) (p : Option WatchId) : Prop :=
  (t = .range → r.rangeFieldsLegal = true) ∧ r.skip.toNat ≤ Config.max24 ∧ ¬ (r.relatch = true ∧ p = none) ∧
    (r.capture = true → r.pre.toNat ≤ Config.maxPre)

/-- The configuration asked for by a record whose encodings are these (R2). -/
def CommandRecord.configWith (r : CommandRecord) (t : TestKind) (se : Sense) (m : Mode) (p : Option WatchId) :
    WatchConfig where
  test := t
  mask := if t = .masked then r.mask else 0
  value := if t = .masked then r.value else 0
  fieldOffset := if t = .range then r.fieldOffset.toNat else 0
  fieldWidth := if t = .range then r.fieldWidth.toNat else 0
  low := if t = .range then r.low.toNat else 0
  high := if t = .range then r.high.toNat else 0
  sense := se
  mode := m
  skip := r.skip.toNat
  window := r.window.toNat
  predecessor := p
  relatch := r.relatch
  capture := r.capture
  pre := if r.capture then r.pre.toNat else 0
  post := if r.capture then r.post.toNat else 0
  halt := r.halt

/-- An accepted record, with its encodings, its checks and its configuration (R2, R3). -/
theorem CommandRecord.config_eq_some {r : CommandRecord} {c : WatchConfig} :
    r.config = some c ↔ ∃ t se m p, testOf r.test = some t ∧ senseOf r.sense = some se ∧ modeOf r.mode = some m ∧
      predecessorOf r.predecessor = some p ∧ r.ValuesLegal t p ∧ c = r.configWith t se m p := by
  unfold CommandRecord.config
  cases ht : testOf r.test with
  | none => simp
  | some t =>
    cases hs : senseOf r.sense with
    | none => simp
    | some se =>
      cases hm : modeOf r.mode with
      | none => simp
      | some m =>
        cases hp : predecessorOf r.predecessor with
        | none => simp
        | some p =>
          have checks : (t == .range && !r.rangeFieldsLegal || decide (Config.max24 < r.skip.toNat) ||
              r.relatch && p == none || r.capture && decide (Config.maxPre < r.pre.toNat)) = false ↔
              r.ValuesLegal t p := by
            simp only [Bool.or_eq_false_iff, Bool.and_eq_false_imp, beq_iff_eq, Bool.not_eq_false', decide_eq_false_iff_not,
              Nat.not_lt, beq_eq_false_iff_ne, CommandRecord.ValuesLegal, not_and, and_assoc, ne_eq]
          dsimp only
          split
          next h =>
            have hillegal : ¬ r.ValuesLegal t p := fun e => Bool.false_ne_true ((checks.2 e).symm.trans h)
            refine ⟨(nomatch ·), ?_⟩
            rintro ⟨_, _, _, _, ⟨⟩, ⟨⟩, ⟨⟩, ⟨⟩, e, -⟩
            exact absurd e hillegal
          next h =>
            have hlegal := checks.1 (eq_false_of_ne_true h)
            constructor
            · intro e
              exact ⟨t, se, m, p, rfl, rfl, rfl, rfl, hlegal, (Option.some.inj e).symm⟩
            · rintro ⟨_, _, _, _, ⟨⟩, ⟨⟩, ⟨⟩, ⟨⟩, -, rfl⟩
              rfl

/-- An accepted LOAD asks for a legal configuration (R3, Table 1-1). -/
theorem CommandRecord.config_legal {r : CommandRecord} {c : WatchConfig} (h : r.config = some c) : c.Legal := by
  obtain ⟨t, se, m, p, -, -, -, -, ⟨hrange, hskip, hrelatch, hpre⟩, rfl⟩ := CommandRecord.config_eq_some.1 h
  have hpost : r.post.toNat < 2 ^ 16 := r.post.isLt
  refine ⟨hskip, r.window.isLt, ?_, ?_, fun e => ?_, fun e => ?_, fun e => ?_, fun e => ?_⟩
  · cases hc : r.capture with
    | true => simpa [CommandRecord.configWith, hc] using hpre hc
    | false => simp [CommandRecord.configWith, hc]
  · cases hc : r.capture with
    | true => simpa [CommandRecord.configWith, hc] using hpost
    | false => simp [CommandRecord.configWith, hc]
  · exact fun e' => hrelatch ⟨e, e'⟩
  · have e : r.capture = false := e
    simp [CommandRecord.configWith, e]
  · have e : t = .range := e
    obtain ⟨-, hwidth, -, hinside, hfits, hordered⟩ := r.rangeFieldsLegal_iff.1 (hrange e)
    simp [CommandRecord.configWith, e, hwidth, hinside, hfits, hordered]
  · have e : t = .masked := e
    simp [CommandRecord.configWith, e]

/-! ### One watch context stays sound -/

theorem Watch.sound_freeContext : Watch.freeContext.Sound := by
  simp [Watch.Sound, Watch.freeContext, WatchConfig.Legal, WatchConfig.freeValues, Watch.NoneUnreported]

theorem Watch.Sound.live_or_done {w : Watch} (h : w.Sound) (hf : 0 < w.fireCount) :
    w.state = .live ∨ w.state = .done := by
  obtain ⟨-, -, -, -, -, -, -, -, -, hfired, -⟩ := h
  exact (hfired hf).2.2

/-- A watch that is neither LIVE nor DONE has nothing unreported. -/
theorem Watch.Sound.noneUnreported {w : Watch} (h : w.Sound) (hl : w.state ≠ .live) (hd : w.state ≠ .done) :
    w.NoneUnreported := by
  have hzero : w.fireCount = 0 := Nat.eq_zero_of_not_pos fun hf => (h.live_or_done hf).elim hl hd
  obtain ⟨-, -, -, -, -, -, -, -, hnone, -⟩ := h
  exact hnone hzero

theorem Watch.Sound.withPrevious {w : Watch} (h : w.Sound) (hl : w.state = .live) (x : PrevResult) :
    ({ w with previous := x } : Watch).Sound := by
  obtain ⟨hlegal, -, hrest⟩ := h
  exact ⟨hlegal, fun e => (by cases hl.symm.trans e), hrest⟩

theorem Watch.Sound.withSkip {w : Watch} (h : w.Sound) (hl : w.state = .live) {n : Nat} (hn : n ≤ w.config.skip) :
    ({ w with skipRemaining := n } : Watch).Sound := by
  obtain ⟨hlegal, -, hpending, -, hrest⟩ := h
  exact ⟨hlegal, fun e => (by cases hl.symm.trans e), hpending, hn, hrest⟩

/-- Entry into DONE keeps a context sound (R9). -/
theorem Watch.Sound.enterDone {w : Watch} (h : w.Sound) {reason : EndReason} (hr : reason ≠ .none) :
    (w.enterDone reason).Sound := by
  obtain ⟨hlegal, -, -, hskip, -, -, -, -, hnone, hfired, hcounts⟩ := h
  exact ⟨hlegal, (nomatch ·), (nomatch ·), hskip, fun e => absurd rfl e, (nomatch ·), (nomatch ·),
    iff_of_false hr fun e => e rfl, hnone, fun hf => ⟨(hfired hf).1, (hfired hf).2.1, .inr rfl⟩, hcounts⟩

/-- The record of a fire keeps a LIVE context sound (R32). -/
theorem Watch.Sound.recordFire {w : Watch} (h : w.Sound) (hl : w.state = .live) (p : PresentedSample) :
    (w.recordFire p).Sound := by
  obtain ⟨hlegal, -, hpending, hskip, hexp, hexp', hraised, hend, -, hfired, hcount, hmissed⟩ := h
  have hpos : 0 < (w.recordFire p).fireCount := by
    simp only [Watch.recordFire, Config.maxFireCount]
    split <;> omega
  have hbound : (w.recordFire p).fireCount ≤ Config.maxFireCount := by
    simp only [Watch.recordFire]
    split <;> omega
  have hfirst : (w.recordFire p).firstFire ≠ none := by
    simp only [Watch.recordFire]
    split
    next => exact Option.some_ne_none _
    next hz => exact (hfired (Nat.pos_of_ne_zero hz)).1
  exact ⟨hlegal, fun e => (by cases hl.symm.trans e), hpending, hskip, hexp, hexp', hraised, hend,
    fun e => absurd e hpos.ne', fun _ => ⟨hfirst, Option.some_ne_none _, .inl hl⟩, hbound, hmissed⟩

/-- Phases 1 and 2 keep a context sound (R28, R30, R32, R34). -/
theorem Watch.Sound.evaluate {w : Watch} (h : w.Sound) (p : PresentedSample) : (w.evaluate p).Sound := by
  by_cases hl : w.state = .live
  · have seen := h.withPrevious hl (.ofTest (w.config.testResult p.data))
    have fired := seen.recordFire hl p
    have hskip : w.skipRemaining ≤ w.config.skip := by
      obtain ⟨-, -, -, hskip, -⟩ := h
      exact hskip
    unfold Watch.evaluate
    rw [if_pos hl]
    dsimp only
    split
    · unfold Watch.afterFire
      split
      · exact fired.enterDone (by decide)
      · exact fired.withSkip hl le_rfl
    · split
      · exact seen.withSkip hl ((Nat.sub_le _ _).trans hskip)
      · exact seen
  · rwa [Watch.evaluate_of_not_live hl]

/-- A refusal counted at a watch with a fire unreported keeps its context sound (R36). -/
theorem Watch.Sound.countMissed {w : Watch} (h : w.Sound) (hf : 0 < w.fireCount) : w.countMissed.Sound := by
  have hstate := h.live_or_done hf
  obtain ⟨hlegal, -, hpending, hskip, hexp, hexp', hraised, hend, -, hfired, hcount, hmissed⟩ := h
  have hbound : w.countMissed.missed ≤ Config.maxMissed := by
    simp only [Watch.countMissed]
    split <;> omega
  exact ⟨hlegal, fun e => (by obtain g | g := hstate <;> cases g.symm.trans e), hpending,
    hskip, hexp, hexp', hraised, hend, fun e => absurd e hf.ne', hfired, hcount, hbound⟩

/-- Entry into LIVE of a watch that is not DONE keeps its context sound (R8). -/
theorem Watch.Sound.enterLive {w : Watch} (h : w.Sound) (hd : w.state ≠ .done) (tick : Tick) :
    (w.enterLive tick).Sound := by
  obtain ⟨hlegal, -, -, -, -, -, -, hend, hnone, hfired, hcounts⟩ := h
  refine ⟨hlegal, (nomatch ·), (nomatch ·), le_rfl, fun e => ⟨rfl, fun hz => e ?_⟩, fun _ hw => ?_, (nomatch ·),
    iff_of_true (hend.2 hd) (nomatch ·), hnone, fun hf => ⟨(hfired hf).1, (hfired hf).2.1, .inl rfl⟩, hcounts⟩
  · exact if_pos hz
  · have hw : w.config.window ≠ 0 := hw
    simp [Watch.enterLive, hw]

/-- Promotion and relatch keep a context sound (R38, R39). -/
theorem Watch.Sound.succeed {w : Watch} (h : w.Sound) (fired : List WatchId) (tick : Tick) :
    (w.succeed fired tick).Sound := by
  obtain ⟨e, -, -, -, hs⟩ | e := w.succeed_cases fired tick
  · rw [e]
    exact h.enterLive (by obtain g | ⟨g, -⟩ := hs <;> simp [g]) tick
  · rwa [e]

/-- The start-of-run notice keeps a context sound (R48). -/
theorem Watch.Sound.onStartOfRun {w : Watch} (h : w.Sound) : w.onStartOfRun.Sound := by
  unfold Watch.onStartOfRun
  split
  next hl => exact h.withPrevious hl .unknown
  next => exact h

/-- A raised expiry keeps a context sound, where there is one to raise (R43). -/
theorem Watch.Sound.raised {w : Watch} (h : w.Sound) (hl : w.state = .live) (he : w.windowExpiry ≠ none) :
    ({ w with expiryRaised := true } : Watch).Sound := by
  obtain ⟨hlegal, -, hpending, hskip, hexp, hexp', -, hrest⟩ := h
  exact ⟨hlegal, fun e => (by cases hl.symm.trans e), hpending, hskip, hexp, hexp', fun _ => he, hrest⟩

/-- The context after an accepted LOAD is sound (R11). -/
theorem Watch.Sound.loaded {w : Watch} (h : w.Sound) (hs : w.state = .free ∨ w.state = .idle) {c : WatchConfig}
    (hc : c.Legal) : (w.loaded c).Sound := by
  have hnone : w.NoneUnreported := h.noneUnreported (by obtain g | g := hs <;> simp [g]) (by obtain g | g := hs <;> simp [g])
  obtain ⟨-, -, -, -, -, -, -, -, -, -, hcounts⟩ := h
  exact ⟨hc, (nomatch ·), (nomatch ·), Nat.zero_le _, fun e => absurd rfl e, (nomatch ·), (nomatch ·),
    iff_of_true rfl (nomatch ·), fun _ => hnone, fun hf => absurd hnone.1 hf.ne', hcounts⟩

/-- The context after an accepted ARM is sound (R14). -/
theorem Watch.Sound.armed {w : Watch} (h : w.Sound) (hs : w.state = .idle) (tick : Tick) : (w.armed tick).Sound := by
  unfold Watch.armed
  split
  next => exact h.enterLive (by simp [hs]) tick
  next p hp =>
    have hnone : w.NoneUnreported := h.noneUnreported (by simp [hs]) (by simp [hs])
    obtain ⟨hlegal, -, -, -, -, -, -, hend, -, -, hcounts⟩ := h
    exact ⟨hlegal, (nomatch ·), fun _ => Option.ne_none_iff_exists'.2 ⟨p, hp⟩, le_rfl, fun e => absurd rfl e,
      (nomatch ·), (nomatch ·), iff_of_true (hend.2 (by simp [hs])) (nomatch ·), fun _ => hnone,
      fun hf => absurd hnone.1 hf.ne', hcounts⟩

/-- The context after its report is chosen is sound (R19). -/
theorem Watch.Sound.reported {w : Watch} (h : w.Sound) : w.reported.Sound := by
  obtain ⟨hlegal, hfree, hpending, hskip, hexp, hexp', hraised, hend, -, -, -⟩ := h
  unfold Watch.reported
  split
  next hd =>
    have hexpiry : w.windowExpiry = none := by
      by_contra e
      cases hd.symm.trans (hexp e).1
    exact ⟨hlegal, (nomatch ·), (nomatch ·), hskip, fun e => absurd hexpiry e, (nomatch ·), hraised,
      iff_of_true rfl (nomatch ·), fun _ => ⟨rfl, rfl, rfl, rfl, rfl⟩, fun hf => absurd rfl hf.ne', Nat.zero_le _,
      Nat.zero_le _⟩
  next =>
    refine ⟨hlegal, fun e => ?_, hpending, hskip, hexp, hexp', hraised, hend, fun _ => ⟨rfl, rfl, rfl, rfl, rfl⟩,
      fun hf => absurd rfl hf.ne', Nat.zero_le _, Nat.zero_le _⟩
    rw [hfree e]
    rfl

/-! ### The steps of the Watch Table that leave every configuration -/

/-- One step of the Watch Table and the Report List that changes no configuration, and makes no context FREE or non-FREE.
An event is a sequence of these, but for LOAD, FREE and the clearing of the table. -/
inductive WatchEngine.TableStep (e : WatchEngine) : WatchEngine → Prop
  | same (e' : WatchEngine) : e'.watches = e.watches → e'.reportList = e.reportList → e.TableStep e'
  | evaluated (p : PresentedSample) : e.TableStep (e.evaluateAll p)
  | missed (w : WatchId) : 0 < (tget e.watches w).fireCount →
      e.TableStep { e with watches := tset e.watches w (tget e.watches w).countMissed }
  | succeeded (fired : List WatchId) (tick : Tick) (n : SampleNo) : e.TableStep (e.succeedAll fired tick n)
  | noticed : e.TableStep e.takeNotice
  | raised (w : WatchId) : (tget e.watches w).state = .live → (tget e.watches w).windowExpiry ≠ none →
      e.TableStep { e with watches := tset e.watches w { tget e.watches w with expiryRaised := true } }
  | done (w : WatchId) (reason : EndReason) : reason ≠ .none →
      (tget e.watches w).state = .pending ∨ (tget e.watches w).state = .live →
      e.TableStep
        { e with
          watches := tset e.watches w ((tget e.watches w).enterDone reason), reportList := joinReports e.reportList w }
  | armed (w : WatchId) (tick : Tick) : (tget e.watches w).state = .idle →
      e.TableStep { e with watches := tset e.watches w ((tget e.watches w).armed tick) }
  | reported (w : WatchId) (rest : List WatchId) : e.reportList = w :: rest →
      e.TableStep { e with watches := tset e.watches w (tget e.watches w).reported, reportList := rest }

theorem WatchEngine.evaluateAll_watch (e : WatchEngine) (p : PresentedSample) (w : WatchId) :
    tget (e.evaluateAll p).watches w = (tget e.watches w).evaluate p :=
  tget_tmap _ _ _

theorem WatchEngine.succeedAll_reportList (e : WatchEngine) (fired : List WatchId) (tick : Tick) (n : SampleNo) :
    (e.succeedAll fired tick n).reportList = e.reportList := by
  unfold WatchEngine.succeedAll
  rfl

theorem WatchEngine.takeNotice_reportList (e : WatchEngine) : e.takeNotice.reportList = e.reportList := by
  unfold WatchEngine.takeNotice
  rfl

theorem WatchEngine.succeedAll_watch (e : WatchEngine) (fired : List WatchId) (tick : Tick) (n : SampleNo) (w : WatchId) :
    tget (e.succeedAll fired tick n).watches w = (tget e.watches w).succeed fired tick :=
  tget_tmap _ _ _

/-- Every watch context of a Watch Engine is sound. -/
def WatchEngine.Sound (e : WatchEngine) : Prop := ∀ w, (tget e.watches w).Sound

/-- The Report List is exact (R18). -/
def WatchEngine.ReportsExact (e : WatchEngine) : Prop :=
  e.reportList.Nodup ∧
    ∀ w, w ∈ e.reportList ↔ (tget e.watches w).state = .done ∨ 0 < (tget e.watches w).fireCount

/-- One context replaced by a sound one. -/
theorem WatchEngine.Sound.tset {e : WatchEngine} (h : e.Sound) {w : WatchId} {x : Watch} (hx : x.Sound) (v : WatchId) :
    (tget (tset e.watches w x) v).Sound := by
  rw [tget_tset]
  split
  · exact hx
  · exact h v

theorem WatchEngine.Sound.tableStep {e e' : WatchEngine} (h : e.Sound) (hstep : e.TableStep e') : e'.Sound := by
  cases hstep with
  | same e' hw _ =>
    intro w
    rw [hw]
    exact h w
  | evaluated p =>
    intro w
    rw [WatchEngine.evaluateAll_watch]
    exact (h w).evaluate p
  | missed w hf => exact h.tset ((h w).countMissed hf)
  | succeeded fired tick n =>
    intro w
    rw [WatchEngine.succeedAll_watch]
    exact (h w).succeed fired tick
  | noticed =>
    intro w
    rw [WatchEngine.takeNotice_watch]
    exact (h w).onStartOfRun
  | raised w hl he => exact h.tset ((h w).raised hl he)
  | done w reason hr _ => exact h.tset ((h w).enterDone hr)
  | armed w tick hs => exact h.tset ((h w).armed hs tick)
  | reported w rest _ => exact h.tset (h w).reported

/-! ### The Report List stays exact -/

/-- The watch belongs in the Report List: it is DONE or has an unreported fire (R18). -/
abbrev Watch.Reportable (w : Watch) : Prop := w.state = .done ∨ 0 < w.fireCount

theorem Watch.evaluate_fireCount_pos {w : Watch} {p : PresentedSample} (hf : w.fires p.data = true) :
    0 < (w.evaluate p).fireCount := by
  have hl := Watch.live_of_occurs ((w.fires_iff _).1 hf).1
  simp only [Watch.evaluate, hl, hf, if_true, Watch.afterFire, Watch.recordFire]
  have hpos : 0 < (if w.fireCount < Config.maxFireCount then w.fireCount + 1 else w.fireCount) := by
    simp only [Config.maxFireCount]
    split <;> omega
  split <;> exact hpos

/-- What an evaluation adds to the Report List are the watches that fire (R33). -/
theorem Watch.evaluate_reportable (w : Watch) (p : PresentedSample) :
    (w.evaluate p).Reportable ↔ w.Reportable ∨ w.fires p.data = true := by
  cases hf : w.fires p.data with
  | true => exact iff_of_true (.inr (Watch.evaluate_fireCount_pos hf)) (.inr rfl)
  | false =>
    have hsame : (w.evaluate p).state = w.state ∧ (w.evaluate p).fireCount = w.fireCount := by
      unfold Watch.evaluate
      split
      · rw [if_neg (by simp [hf])]
        split <;> exact ⟨rfl, rfl⟩
      · exact ⟨rfl, rfl⟩
    simp [Watch.Reportable, hsame]

theorem Watch.succeed_reportable (w : Watch) (fired : List WatchId) (tick : Tick) :
    (w.succeed fired tick).Reportable ↔ w.Reportable := by
  obtain ⟨e, -, -, -, hs⟩ | e := w.succeed_cases fired tick
  · rw [e]
    obtain g | ⟨g, -⟩ := hs <;> simp [Watch.Reportable, Watch.enterLive, g]
  · rw [e]

theorem Watch.onStartOfRun_reportable (w : Watch) : w.onStartOfRun.Reportable ↔ w.Reportable := by
  unfold Watch.onStartOfRun
  split <;> exact .rfl

theorem Watch.armed_reportable {w : Watch} (hs : w.state = .idle) (tick : Tick) :
    (w.armed tick).Reportable ↔ w.Reportable := by
  unfold Watch.armed
  split <;> simp [Watch.Reportable, Watch.enterLive, hs]

theorem Watch.not_reported_reportable (w : Watch) : ¬ w.reported.Reportable := by
  unfold Watch.reported
  split
  next => simp [Watch.Reportable, Watch.clearUnreported]
  next hd => simp [Watch.Reportable, Watch.clearUnreported, hd]

theorem foldl_joinReports_nodup {l : List WatchId} (h : l.Nodup) (ws : List WatchId) :
    (ws.foldl joinReports l).Nodup := by
  induction ws generalizing l with
  | nil => exact h
  | cons w ws ih => exact ih (joinReports_nodup h w)

theorem mem_foldl_joinReports {l ws : List WatchId} {v : WatchId} :
    v ∈ ws.foldl joinReports l ↔ v ∈ l ∨ v ∈ ws := by
  induction ws generalizing l with
  | nil => simp
  | cons w ws ih => simp [ih, mem_joinReports, or_assoc]

/-- A Report List with the same ids, at contexts that belong in it as before. -/
theorem WatchEngine.ReportsExact.of_reportable {e e' : WatchEngine} (h : e.ReportsExact)
    (hl : e'.reportList = e.reportList)
    (hw : ∀ w, (tget e'.watches w).Reportable ↔ (tget e.watches w).Reportable) : e'.ReportsExact :=
  ⟨hl ▸ h.1, fun w => by rw [hl]; exact (h.2 w).trans (hw w).symm⟩

/-- One context replaced by one that belongs in the Report List as before. -/
theorem WatchEngine.ReportsExact.of_replaced {e : WatchEngine} (h : e.ReportsExact) {w : WatchId} {x : Watch}
    (hx : x.Reportable ↔ (tget e.watches w).Reportable) :
    ({ e with watches := tset e.watches w x } : WatchEngine).ReportsExact := by
  refine h.of_reportable rfl fun v => ?_
  dsimp only
  rw [tget_tset]
  split
  next hv => rw [hv, hx]
  next => exact .rfl

theorem WatchEngine.ReportsExact.tableStep {e e' : WatchEngine} (h : e.ReportsExact) (hstep : e.TableStep e') :
    e'.ReportsExact := by
  cases hstep with
  | same e' hw hl => exact h.of_reportable hl fun w => by rw [hw]
  | evaluated p =>
    have hl : (e.evaluateAll p).reportList = (firedSet e.watches p).foldl joinReports e.reportList := rfl
    refine ⟨hl ▸ foldl_joinReports_nodup h.1 _, fun w => ?_⟩
    rw [hl, WatchEngine.evaluateAll_watch, mem_foldl_joinReports, mem_firedSet, h.2 w]
    exact (Watch.evaluate_reportable _ p).symm
  | missed w _ => exact h.of_replaced .rfl
  | succeeded fired tick n =>
    refine h.of_reportable (e.succeedAll_reportList fired tick n) fun w => ?_
    rw [WatchEngine.succeedAll_watch]
    exact Watch.succeed_reportable _ fired tick
  | noticed =>
    refine h.of_reportable e.takeNotice_reportList fun w => ?_
    rw [WatchEngine.takeNotice_watch]
    exact Watch.onStartOfRun_reportable _
  | raised w _ _ => exact h.of_replaced .rfl
  | done w reason _ _ =>
    refine ⟨joinReports_nodup h.1 w, fun v => ?_⟩
    dsimp only
    rw [mem_joinReports, tget_tset]
    split
    next hv => exact iff_of_true (.inr hv) (.inl rfl)
    next hv => rw [h.2 v, or_iff_left hv]
  | armed w tick hs => exact h.of_replaced (Watch.armed_reportable hs tick)
  | reported w rest hl =>
    obtain ⟨hnodup, hmem⟩ := h
    rw [hl] at hnodup hmem
    obtain ⟨hw, hrest⟩ := List.nodup_cons.1 hnodup
    refine ⟨hrest, fun v => ?_⟩
    dsimp only
    rw [tget_tset]
    split
    next hv => exact iff_of_false (hv ▸ hw) (Watch.not_reported_reportable _)
    next hv => rw [← hmem v, List.mem_cons, or_iff_right hv]

/-! ### Configurations, and which contexts are FREE -/

/-- The same configurations, and the same contexts FREE. -/
def WatchEngine.SameLoads (e e' : WatchEngine) : Prop :=
  ∀ w, (tget e'.watches w).config = (tget e.watches w).config ∧
    ((tget e'.watches w).state = .free ↔ (tget e.watches w).state = .free)

theorem WatchEngine.SameLoads.refl (e : WatchEngine) : e.SameLoads e := fun _ => ⟨rfl, .rfl⟩

theorem WatchEngine.SameLoads.trans {a b c : WatchEngine} (h : a.SameLoads b) (g : b.SameLoads c) : a.SameLoads c :=
  fun w => ⟨(g w).1.trans (h w).1, (g w).2.trans (h w).2⟩

theorem WatchEngine.SameLoads.of_replaced (e : WatchEngine) {w : WatchId} {x : Watch} (r : List WatchId)
    (hc : x.config = (tget e.watches w).config) (hf : x.state = .free ↔ (tget e.watches w).state = .free) :
    e.SameLoads { e with watches := tset e.watches w x, reportList := r } := by
  intro v
  dsimp only
  rw [tget_tset]
  split
  next hv => rw [hv]; exact ⟨hc, hf⟩
  next => exact ⟨rfl, .rfl⟩

theorem Watch.evaluate_free (w : Watch) (p : PresentedSample) : (w.evaluate p).state = .free ↔ w.state = .free := by
  by_cases hl : w.state = .live
  · refine iff_of_false ?_ (by simp [hl])
    unfold Watch.evaluate Watch.afterFire Watch.recordFire Watch.enterDone
    rw [if_pos hl]
    split
    · dsimp only
      split <;> simp [hl]
    · split <;> simp [hl]
  · rw [Watch.evaluate_of_not_live hl]

theorem WatchEngine.TableStep.sameLoads {e e' : WatchEngine} (hstep : e.TableStep e') : e.SameLoads e' := by
  cases hstep with
  | same e' hw _ => intro w; rw [hw]; exact ⟨rfl, .rfl⟩
  | evaluated p =>
    intro w
    rw [WatchEngine.evaluateAll_watch]
    exact ⟨Watch.evaluate_config p _, Watch.evaluate_free _ p⟩
  | missed w _ => exact .of_replaced e _ rfl .rfl
  | succeeded fired tick n =>
    intro w
    rw [WatchEngine.succeedAll_watch]
    refine ⟨Watch.succeed_config _ _ _, ?_⟩
    obtain ⟨h, -, -, -, hs⟩ | h := (tget e.watches w).succeed_cases fired tick
    · rw [h]
      refine iff_of_false (nomatch ·) ?_
      obtain g | ⟨g, -⟩ := hs <;> simp [g]
    · rw [h]
  | noticed =>
    intro w
    rw [WatchEngine.takeNotice_watch]
    unfold Watch.onStartOfRun
    split <;> exact ⟨rfl, .rfl⟩
  | raised w _ _ => exact .of_replaced e _ rfl .rfl
  | done w reason _ hs => exact .of_replaced e _ rfl (iff_of_false (nomatch ·) (by obtain g | g := hs <;> simp [g]))
  | armed w tick hs =>
    refine .of_replaced e _ ?_ (iff_of_false ?_ (by simp [hs]))
    · unfold Watch.armed
      split <;> rfl
    · unfold Watch.armed
      split <;> simp [Watch.enterLive]
  | reported w rest _ =>
    refine .of_replaced e _ ?_ ?_
    · unfold Watch.reported
      split <;> rfl
    · unfold Watch.reported
      split
      next hd => exact iff_of_false (nomatch ·) (by simp [hd])
      next => exact .rfl

/-! ### Sequences of steps -/

/-- A sequence of steps of the Watch Table. -/
abbrev WatchEngine.TableSteps : WatchEngine → WatchEngine → Prop := Relation.ReflTransGen WatchEngine.TableStep

theorem WatchEngine.TableSteps.keeps {P : WatchEngine → Prop} (hstep : ∀ a b, P a → a.TableStep b → P b)
    {e e' : WatchEngine} (h : e.TableSteps e') (hP : P e) : P e' := by
  induction h with
  | refl => exact hP
  | tail _ hlast ih => exact hstep _ _ ih hlast

theorem WatchEngine.TableSteps.sound {e e' : WatchEngine} (h : e.TableSteps e') (hs : e.Sound) : e'.Sound :=
  h.keeps (fun _ _ g => g.tableStep) hs

theorem WatchEngine.TableSteps.reportsExact {e e' : WatchEngine} (h : e.TableSteps e') (hs : e.ReportsExact) :
    e'.ReportsExact :=
  h.keeps (fun _ _ g => g.tableStep) hs

theorem WatchEngine.TableSteps.sameLoads {e e' : WatchEngine} (h : e.TableSteps e') : e.SameLoads e' :=
  h.keeps (fun _ _ g k => g.trans k.sameLoads) (.refl e)

theorem WatchEngine.TableSteps.of_same {e e' : WatchEngine} (hw : e'.watches = e.watches)
    (hl : e'.reportList = e.reportList) : e.TableSteps e' :=
  .single (.same e' hw hl)

/-- Every watch of the list has an unreported fire, so that its refused requests can be counted (R36). -/
theorem State.tableSteps_makeCaptureRequests (p : PresentedSample) (ws : List WatchId) (s : State)
    (h : ∀ w ∈ ws, 0 < (s.watch w).fireCount) :
    s.eng.TableSteps (State.makeCaptureRequests p ws s).eng := by
  induction ws generalizing s with
  | nil => exact .refl
  | cons w rest ih =>
    have hrest := List.forall_mem_cons.1 h
    simp only [State.makeCaptureRequests]
    split
    · split
      next t ht =>
        have hsame : t.eng = s.eng := by rw [State.requestCapture_frame ht]
        rw [← hsame]
        exact ih t fun v hv => by
          simp only [State.watch, hsame]
          exact hrest.2 v hv
      next =>
        refine .head (.missed w hrest.1) (ih (s.setWatch w (s.watch w).countMissed) fun v hv => ?_)
        rw [State.setWatch_watch]
        split
        next e => exact e ▸ hrest.2 v hv
        next => exact hrest.2 v hv
    · exact ih s hrest.2

theorem State.checkStart_watches (s : State) : s.checkStart.eng.watches = s.eng.watches := by
  rw [s.checkStart_frame]

theorem State.checkStart_reportList (s : State) : s.checkStart.eng.reportList = s.eng.reportList := by
  rw [s.checkStart_frame]

theorem State.closeSample_table (s : State) (halt : Option WatchId) (n : SampleNo) :
    s.eng.TableSteps (s.closeSample halt n).eng := by
  unfold State.closeSample
  cases halt with
  | none => exact .of_same (State.checkStart_watches _) (State.checkStart_reportList _)
  | some w =>
    cases s.acq.state with
    | idle => exact .of_same (State.checkStart_watches _) (State.checkStart_reportList _)
    | running => exact .of_same rfl rfl

/-- The part after the four phases of a sample's evaluation, before its close (R24). -/
def State.beforeClose (s : State) (p : PresentedSample) : State :=
  let s3 := State.makeCaptureRequests p (firedSet s.eng.watches p) (s.withEng (s.eng.evaluateAll p))
  s3.withEng (s3.eng.succeedAll (firedSet s.eng.watches p) s3.tick p.number)

/-- The halt request of a sample, if one is made (R37). -/
def State.halting (s : State) (p : PresentedSample) : Option WatchId :=
  (s.withEng (s.eng.evaluateAll p)).haltRequest (firedSet s.eng.watches p)

theorem State.evaluateSample_eq (s : State) (p : PresentedSample) :
    s.evaluateSample p = (s.beforeClose p).closeSample (s.halting p) p.number := rfl

/-- A fired watch has a fire unreported. -/
theorem WatchEngine.evaluateAll_fireCount {e : WatchEngine} {p : PresentedSample} {w : WatchId}
    (h : w ∈ firedSet e.watches p) : 0 < (tget (e.evaluateAll p).watches w).fireCount := by
  rw [WatchEngine.evaluateAll_watch]
  exact Watch.evaluate_fireCount_pos (mem_firedSet.1 h)

/-- The four phases of an evaluation, as steps of the Watch Table. -/
theorem State.tableSteps_beforeClose (s : State) (p : PresentedSample) : s.eng.TableSteps (s.beforeClose p).eng :=
  .head (.evaluated p)
    (.tail (State.tableSteps_makeCaptureRequests p (firedSet s.eng.watches p) (s.withEng (s.eng.evaluateAll p))
        fun _ hw => WatchEngine.evaluateAll_fireCount hw)
      (.succeeded _ _ _))

theorem State.tableSteps_evaluateSample (s : State) (p : PresentedSample) :
    s.eng.TableSteps (s.evaluateSample p).eng :=
  (s.tableSteps_beforeClose p).trans (State.closeSample_table _ _ _)

end Sys2Proof.Machine
end

/-! PROOFS. The Watch Table (chapter 1), over every event: the contexts and the Report List stay sound (O9), the predecessors
stay without loops (O10), and what changes a configuration (O8). -/

section
namespace Sys2Proof.Machine

/-! ### What an event does to the Watch Table -/

/-- What an event does to the Watch Table: it clears it, loads or frees one context, or leaves every configuration. -/
inductive State.TableEvent (s : State) (c : Instr) (t : State) : Prop
  | cleared : t.eng = .cleared →
      t.ctl.device = .disabled ∨ (t.ctl.device = .enabled ∧ s.ctl.device = .starting) → s.TableEvent c t
  | loaded (cur : CurrentCommand) (w : WatchId) (cfg : WatchConfig) : c = .load →
      s.dispatchedWatch .load = some (cur, w) → s.eng.judgeLoad w cur.record = (.ok, some cfg) →
      t.eng = { s.eng with watches := tset s.eng.watches w ((s.watch w).loaded cfg) } → s.TableEvent c t
  | freed (cur : CurrentCommand) (w : WatchId) : c = .free → s.dispatchedWatch .free = some (cur, w) →
      (s.watch w).state = .idle → hasSuccessor s.eng.watches w = false →
      t.eng = { s.eng with watches := tset s.eng.watches w .freeContext } → s.TableEvent c t
  | steps : s.eng.TableSteps t.eng → s.TableEvent c t

theorem State.TableEvent.same {s t : State} {c : Instr} (h : t.eng = s.eng) : s.TableEvent c t :=
  .steps (h ▸ .refl)

/-- The evaluation of a sample at a part with this Watch Engine. -/
theorem State.tableSteps_evaluateSample_of {e : WatchEngine} {u : State} (h : u.eng = e) (p : PresentedSample) :
    e.TableSteps (u.evaluateSample p).eng :=
  h ▸ u.tableSteps_evaluateSample p

/-- A presented sample is evaluated or dropped when the part leaves ENABLED (R50): steps of the Watch Table. -/
theorem State.tableSteps_closePresented {e : WatchEngine} {u : State} (h : u.eng = e) :
    e.TableSteps u.closePresented.eng := by
  unfold State.closePresented
  split
  next => exact h ▸ .refl
  next p _ =>
    split
    next => exact State.tableSteps_evaluateSample_of h p
    next => exact h ▸ .of_same rfl rfl

theorem State.tableSteps_stopBlocks {e : WatchEngine} {u : State} (h : u.eng = e) (d : DeviceState) :
    e.TableSteps (u.stopBlocks d).eng := by
  unfold State.stopBlocks
  exact State.tableSteps_closePresented h

theorem State.tableSteps_enterFaulted {e : WatchEngine} {u : State} (h : u.eng = e) (code : FaultCode) :
    e.TableSteps (u.enterFaulted code).eng := by
  rw [u.enterFaulted_eq]
  exact State.tableSteps_stopBlocks h .faulted

/-- The end of a passage clears the Watch Table, or leaves it (R6). -/
theorem State.endPassage_eng (s : State) :
    s.endPassage = s ∨ (s.endPassage.eng = .cleared ∧ s.endPassage.ctl.device = .disabled) := by
  obtain ⟨-, -, h⟩ | ⟨-, -, h⟩ | ⟨-, h⟩ := s.endPassage_cases
  · exact .inr (by rw [h]; exact ⟨rfl, rfl⟩)
  · exact .inr (by rw [h]; exact ⟨rfl, rfl⟩)
  · exact .inl h

theorem State.tableEvent_leave (s : State) (c : Instr) (d : DeviceState) : s.TableEvent c (s.leave d) := by
  unfold State.leave
  obtain h | ⟨heng, hdevice⟩ := State.endPassage_eng
    ((s.stopBlocks d).withCtl { (s.stopBlocks d).ctl with enable := false })
  · rw [h]
    exact .steps (State.tableSteps_stopBlocks rfl d)
  · exact .cleared heng (.inl hdevice)

theorem State.Delivered.table {s t : State} {tag : Tag} {ans : Answer} {data : ReadData} {q : Requester}
    (h : s.Delivered tag ans data q t) :
    s.eng.TableSteps t.eng ∨ (t.eng = .cleared ∧ t.ctl.device = .enabled ∧ s.ctl.device = .starting) := by
  cases h with
  | setupFailed code _ _ => exact .inl (State.tableSteps_enterFaulted (by rfl) code)
  | setupTaken hd _ _ => exact .inr ⟨rfl, rfl, hd⟩
  | recordFailed _ _ _ => exact .inl (State.tableSteps_enterFaulted (by rfl) _)
  | batchFailed b _ _ _ => exact .inl (State.tableSteps_enterFaulted (by rfl) _)
  | eventFailed _ _ => exact .inl (State.tableSteps_enterFaulted (by rfl) _)
  | batchTaken b _ _ _ => rw [s.bqRead_ok_frame]; exact .inl .refl
  | eventWritten _ _ => rw [s.eqWritten_ok_frame]; exact .inl .refl
  | burstAnswered i _ => exact .inl (.of_same (State.checkStart_watches _) (State.checkStart_reportList _))
  | _ => exact .inl .refl

theorem State.tableEvent_itemChosen {s : State} {x : EventContent} (h : s.Offered x) :
    s.eng.TableSteps (s.itemChosen x).eng := by
  cases h with
  | captureDone d _ =>
    simp only [State.itemChosen]
    rw [State.captureDoneChosen_frame]
  | acqHalt r _ _ => exact .of_same (State.checkStart_watches _) (State.checkStart_reportList _)
  | cmdDone d _ _ _ => exact .refl
  | bufferReject r rest _ _ _ _ =>
    simp only [State.itemChosen]
    rw [State.checkBufferFetch_eq]
    exact .refl
  | watchReport w rest _ _ _ _ hl _ =>
    have hdrop : s.eng.reportList.drop 1 = rest := by rw [hl]; rfl
    simp only [State.itemChosen, State.reportChosen, Watch.report, hdrop]
    exact .single (.reported w rest hl)

theorem Mode.expiryReason_ne_none (m : Mode) : m.expiryReason ≠ .none := by cases m <;> simp [Mode.expiryReason]

theorem Watch.expiryReached_iff {w : Watch} {tick : Tick} :
    w.expiryReached tick = true ↔ ∃ e, w.windowExpiry = some e ∧ (tick - e).toNat < 2 ^ 47 := by
  unfold Watch.expiryReached reached
  cases w.windowExpiry with
  | none => simp
  | some e => simp

theorem State.Event.table {c : Instr} {s t : State} (h : s.Event c t) : s.TableEvent c t := by
  cases h with
  | loaded cur w cfg hd hj => exact .loaded cur w cfg rfl hd hj rfl
  | freed cur w hd hi hs => exact .freed cur w rfl hd hi hs rfl
  | evaluated p _ _ _ => exact .steps (s.tableSteps_evaluateSample p)
  | noticeTaken _ _ _ => exact .steps (.single .noticed)
  | expiryRaised w _ hl he =>
    obtain ⟨e, he, -⟩ := Watch.expiryReached_iff.1 he
    exact .steps (.single (.raised w hl (by
      have : (tget s.eng.watches w).windowExpiry = some e := he
      simp [this])))
  | windowEnded w _ _ hl _ =>
    exact .steps (.single (.done w _ (Mode.expiryReason_ne_none _) (.inr hl)))
  | armed cur w _ hi => exact .steps (.single (.armed w s.tick hi))
  | disarmed cur w _ hs => exact .steps (.single (.done w .disarmed (by decide) hs))
  | startHeld c cur _ _ => exact .steps (.of_same (State.checkStart_watches _) (State.checkStart_reportList _))
  | granted q tag _ _ _ =>
    have hframe := s.tellGranted_frame tag q
    refine .steps (.of_same ?_ ?_)
    · rw [s.issueGrant_frame, hframe]; rfl
    · rw [s.issueGrant_frame, hframe]; rfl
  | entryEnded c q tag size e x ans data u _ _ hdel =>
    obtain hsame | ⟨heng, hdevice⟩ := u.endPassage_eng
    · rw [hsame]
      obtain hsteps | ⟨heng, hd, hs⟩ := hdel.table
      · exact .steps hsteps
      · exact .cleared heng (.inr ⟨hd, hs⟩)
    · exact .cleared heng (.inl hdevice)
  | chosen x _ hoffer => exact .steps (State.tableEvent_itemChosen (State.offer_eq_some.1 hoffer))
  | rangeFault c code _ _ => exact .steps (State.tableSteps_enterFaulted rfl code)
  | cqTailRaised v _ _ => rw [State.checkCommandFetch_frame]; exact .same rfl
  | bqTailRaised v _ _ => rw [State.checkBufferFetch_eq]; exact .same rfl
  | resetWritten c v _ _ _ => exact s.tableEvent_leave c _
  | disabledWritten c v _ _ _ _ => exact s.tableEvent_leave c _
  | pinMoved c level _ => exact .cleared rfl (.inl rfl)
  | ticked _ =>
    obtain ⟨p, -, -, -, h⟩ | ⟨-, h⟩ := s.endDueEvaluation_cases
    · rw [h]
      refine .steps ?_
      rw [State.withTick_eng]
      split
      · exact .head .noticed 
          (State.tableSteps_evaluateSample_of (e := s.eng.takeNotice) (u := s.withEng s.eng.takeNotice) rfl p)
      · exact s.tableSteps_evaluateSample p
    · rw [h]; exact .same rfl
  | arrived _ _ | evaluationBegun _ _ _ _ | startTaken _ => exact .steps (.of_same rfl rfl)
  | _ => exact .same rfl

/-! ### O9 -/

theorem WatchEngine.sound_cleared : WatchEngine.cleared.Sound := by
  intro w
  rw [WatchEngine.cleared, tget_replicate]
  exact Watch.sound_freeContext

theorem WatchEngine.reportsExact_cleared : WatchEngine.cleared.ReportsExact := by
  refine ⟨List.nodup_nil, fun w => ?_⟩
  rw [WatchEngine.cleared, tget_replicate]
  simp [Watch.freeContext]

/-- An accepted LOAD: its watch is FREE or IDLE, its record is accepted, and no check of the predecessor refuses it (R10). -/
theorem WatchEngine.judgeLoad_ok {e : WatchEngine} {w : WatchId} {r : CommandRecord} {cfg : WatchConfig}
    (h : e.judgeLoad w r = (.ok, some cfg)) :
    ((tget e.watches w).state = .free ∨ (tget e.watches w).state = .idle) ∧ r.config = some cfg ∧
      predecessorRefusal e.watches w cfg.predecessor = none := by
  unfold WatchEngine.judgeLoad at h
  split at h
  next hs =>
    split at h
    next => cases h
    next c hc =>
      split at h
      next => cases h
      next hp => cases h; exact ⟨hs, hc, hp⟩
  next => cases h

theorem State.TableEvent.sound {s t : State} {c : Instr} (h : s.TableEvent c t) (hs : s.eng.Sound) : t.eng.Sound := by
  cases h with
  | cleared he _ => rw [he]; exact WatchEngine.sound_cleared
  | loaded cur w cfg _ _ hj he =>
    obtain ⟨hstate, hcfg, -⟩ := WatchEngine.judgeLoad_ok hj
    rw [he]
    exact hs.tset ((hs w).loaded hstate (CommandRecord.config_legal hcfg))
  | freed cur w _ _ _ _ he => rw [he]; exact hs.tset Watch.sound_freeContext
  | steps hsteps => exact hsteps.sound hs

theorem State.TableEvent.reportsExact {s t : State} {c : Instr} (h : s.TableEvent c t) (hs : s.eng.Sound)
    (hr : s.eng.ReportsExact) : t.eng.ReportsExact := by
  cases h with
  | cleared he _ => rw [he]; exact WatchEngine.reportsExact_cleared
  | loaded cur w cfg _ _ hj he =>
    obtain ⟨hstate, -, -⟩ := WatchEngine.judgeLoad_ok hj
    have hd : (tget s.eng.watches w).state ≠ .done := by obtain g | g := hstate <;> simp [g]
    rw [he]
    refine hr.of_replaced ?_
    simp [Watch.Reportable, Watch.loaded, hd, State.watch]
  | freed cur w _ _ hi _ he =>
    have hi : (tget s.eng.watches w).state = .idle := hi
    have hnone := (hs w).noneUnreported (by simp [hi]) (by simp [hi])
    rw [he]
    refine hr.of_replaced ?_
    simp [Watch.Reportable, Watch.freeContext, hi, hnone.1]
  | steps hsteps => exact hsteps.reportsExact hr

/-- Settles O9: every event is a sequence of table steps, an accepted LOAD or FREE, or clears the table, and each keeps
every context sound and the Report List exact. -/
theorem watchTableStaysSound : Obligations.WatchTableStaysSound := by
  intro c s t hs h
  have hevent := (State.event_of_exec h).table
  exact ⟨hevent.sound hs, hevent.reportsExact hs⟩

/-! ### O8 -/

/-- Settles O8: table steps change no configuration, and a LOAD and a FREE that of their own watch. -/
theorem configurationChangedBy : Obligations.ConfigurationChangedBy := by
  intro c s t w h hchanged
  cases (State.event_of_exec h).table with
  | cleared he hd => exact .inl ⟨he, hd⟩
  | loaded cur v cfg hc hdisp hj he =>
    obtain ⟨-, hdis, hw⟩ := State.dispatchedWatch_eq_some.1 hdisp
    have hdis := State.dispatched_eq_some.1 hdis
    have hwatch : t.watch w = if w = v then (s.watch v).loaded cfg else s.watch w := by
      rw [State.watch, he]; exact tget_tset _ _ _ _
    rw [hwatch] at hchanged ⊢
    by_cases e : w = v
    · subst e
      rw [if_pos rfl]
      exact .inr ⟨cur, hdis.2.2.1, hw, .inl ⟨hc, hdis, (WatchEngine.judgeLoad_ok hj).2.1⟩⟩
    · rw [if_neg e] at hchanged
      exact absurd rfl hchanged
  | freed cur v hc hdisp _ _ he =>
    obtain ⟨-, hdis, hw⟩ := State.dispatchedWatch_eq_some.1 hdisp
    have hdis := State.dispatched_eq_some.1 hdis
    have hwatch : t.watch w = if w = v then .freeContext else s.watch w := by
      rw [State.watch, he]; exact tget_tset _ _ _ _
    rw [hwatch] at hchanged ⊢
    by_cases e : w = v
    · subst e
      rw [if_pos rfl]
      exact .inr ⟨cur, hdis.2.2.1, hw, .inr ⟨hc, hdis, rfl⟩⟩
    · rw [if_neg e] at hchanged
      exact absurd rfl hchanged
  | steps hsteps => exact absurd (hsteps.sameLoads w).1 hchanged

end Sys2Proof.Machine
end

/-! PROOFS. Predecessors (R12, R13): no event makes a loop among them or leaves one that is FREE (O10), and the walk of LOAD
decides whether one would be made. -/

section
namespace Sys2Proof.Machine

/-! ### Chains of predecessors -/

theorem predecessorChain_succ_of_some {v : Vector Watch 64} {w p : WatchId}
    (h : (tget v w).config.predecessor = some p) (n : Nat) : predecessorChain v (n + 1) w = predecessorChain v n p := by
  simp [predecessorChain, h]

theorem predecessorChain_succ_of_none {v : Vector Watch 64} {w : WatchId}
    (h : (tget v w).config.predecessor = none) (n : Nat) : predecessorChain v (n + 1) w = none := by
  simp [predecessorChain, h]

/-- A chain of `a + b` references is one of `a`, and one of `b` from there. -/
theorem predecessorChain_add (v : Vector Watch 64) (a b : Nat) (w : WatchId) :
    predecessorChain v (a + b) w = (predecessorChain v a w).bind (predecessorChain v b) := by
  induction a generalizing w with
  | zero => simp [predecessorChain]
  | succ a ih =>
    rw [Nat.succ_add]
    cases h : (tget v w).config.predecessor with
    | none => rw [predecessorChain_succ_of_none h, predecessorChain_succ_of_none h]; rfl
    | some p => rw [predecessorChain_succ_of_some h, predecessorChain_succ_of_some h, ih]

/-- Two tables that differ at one watch only have the same chain as far as it does not come to that watch. -/
theorem predecessorChain_congr {u v : Vector Watch 64} {w : WatchId}
    (hsame : ∀ x, x ≠ w → (tget v x).config.predecessor = (tget u x).config.predecessor) (n : Nat) (x : WatchId)
    (havoid : ∀ m, m < n → predecessorChain u m x ≠ some w) : predecessorChain v n x = predecessorChain u n x := by
  induction n generalizing x with
  | zero => rfl
  | succ n ih =>
    have hx : x ≠ w := fun e => havoid 0 (Nat.zero_lt_succ n) (congrArg some e)
    cases h : (tget u x).config.predecessor with
    | none => rw [predecessorChain_succ_of_none h, predecessorChain_succ_of_none ((hsame x hx).trans h)]
    | some p =>
      rw [predecessorChain_succ_of_some h, predecessorChain_succ_of_some ((hsame x hx).trans h)]
      refine ih p fun m hm e => havoid (m + 1) (Nat.succ_lt_succ hm) ?_
      rw [predecessorChain_succ_of_some h, e]

/-- The predecessors of a Watch Table are sound (R12). -/
def ChainsSoundIn (v : Vector Watch 64) : Prop :=
  ∀ w : WatchId, (tget v w).state ≠ .free →
    (∀ n, predecessorChain v (n + 1) w ≠ some w) ∧
    ∀ p, (tget v w).config.predecessor = some p → (tget v p).state ≠ .free

theorem State.chainsSound_iff (s : State) : s.ChainsSound ↔ ChainsSoundIn s.eng.watches := .rfl

/-- Every watch on the chain of a non-FREE watch is non-FREE. -/
theorem ChainsSoundIn.chain_not_free {v : Vector Watch 64} (h : ChainsSoundIn v) {n : Nat} {w x : WatchId}
    (hw : (tget v w).state ≠ .free) (hx : predecessorChain v n w = some x) : (tget v x).state ≠ .free := by
  induction n generalizing w with
  | zero => cases hx; exact hw
  | succ n ih =>
    cases hp : (tget v w).config.predecessor with
    | none => rw [predecessorChain_succ_of_none hp] at hx; cases hx
    | some p =>
      rw [predecessorChain_succ_of_some hp] at hx
      exact ih ((h w hw).2 p hp) hx

/-! ### The walk of LOAD -/

/-- A walk that answers no never comes to the loaded watch. -/
theorem predecessorChain_ne_of_walk {v : Vector Watch 64} {w : WatchId} {fuel : Nat} {p : WatchId}
    (h : walkReaches v w fuel p = false) (n : Nat) : predecessorChain v n p ≠ some w := by
  induction fuel generalizing p n with
  | zero => cases h
  | succ fuel ih =>
    simp only [walkReaches] at h
    split at h
    next => cases h
    next hne =>
      cases n with
      | zero => exact fun e => hne (Option.some.inj e)
      | succ n =>
        cases hp : (tget v p).config.predecessor with
        | none => rw [predecessorChain_succ_of_none hp]; exact (nomatch ·)
        | some q =>
          rw [predecessorChain_succ_of_some hp]
          rw [hp] at h
          exact ih h n

/-- A walk that answers yes comes to the loaded watch, or is as long as its fuel. -/
theorem predecessorChain_of_walk {v : Vector Watch 64} {w : WatchId} {fuel : Nat} {p : WatchId}
    (h : walkReaches v w fuel p = true) :
    (∃ n, predecessorChain v n p = some w) ∨ ∃ x, predecessorChain v fuel p = some x := by
  induction fuel generalizing p with
  | zero => exact .inr ⟨p, rfl⟩
  | succ fuel ih =>
    simp only [walkReaches] at h
    split at h
    next e => exact .inl ⟨0, congrArg some e⟩
    next =>
      cases hp : (tget v p).config.predecessor with
      | none => rw [hp] at h; cases h
      | some q =>
        rw [hp] at h
        obtain ⟨n, hn⟩ | ⟨x, hx⟩ := ih h
        · exact .inl ⟨n + 1, by rw [predecessorChain_succ_of_some hp, hn]⟩
        · exact .inr ⟨x, by rw [predecessorChain_succ_of_some hp, hx]⟩

/-- Where there are no loops no chain has 64 references: two of its 65 watches would be the same. -/
theorem ChainsSoundIn.chain_ends {v : Vector Watch 64} (h : ChainsSoundIn v) {p x : WatchId}
    (hp : (tget v p).state ≠ .free) : predecessorChain v 64 p ≠ some x := by
  intro hx
  have reached (i : Nat) (hi : i ≤ 64) : ∃ y, predecessorChain v i p = some y := by
    have hsplit := predecessorChain_add v i (64 - i) p
    rw [Nat.add_sub_cancel' hi, hx] at hsplit
    obtain ⟨y, hy, -⟩ := Option.bind_eq_some_iff.1 hsplit.symm
    exact ⟨y, hy⟩
  choose f hf using fun i : Fin 65 => reached i (Nat.le_of_lt_succ i.isLt)
  obtain ⟨i, j, hij, hsame⟩ := Fintype.exists_ne_map_eq_of_card_lt f (by simp)
  have loop (i j : Fin 65) (hlt : i < j) (hsame : f i = f j) : False := by
    have hadd := predecessorChain_add v i (j - i) p
    rw [Nat.add_sub_cancel' hlt.le, hf i, hf j, ← hsame, Option.bind_some] at hadd
    obtain ⟨n, hn⟩ : ∃ n, (j : Nat) - i = n + 1 := ⟨j - i - 1, by omega⟩
    rw [hn] at hadd
    exact (h (f i) (h.chain_not_free hp (hf i))).1 n hadd.symm
  obtain hlt | hlt := lt_or_gt_of_ne hij
  · exact loop i j hlt hsame
  · exact loop j i hlt hsame.symm

/-- The walk of LOAD finds a loop exactly when there is one to find (R13). -/
theorem ChainsSoundIn.walkReaches_iff {v : Vector Watch 64} (h : ChainsSoundIn v) {w p : WatchId}
    (hp : (tget v p).state ≠ .free) : walkReaches v w 64 p = true ↔ ∃ n, predecessorChain v n p = some w := by
  constructor
  · intro hw
    exact (predecessorChain_of_walk hw).resolve_right fun ⟨x, hx⟩ => h.chain_ends hp hx
  · rintro ⟨n, hn⟩
    by_contra hw
    exact predecessorChain_ne_of_walk (eq_false_of_ne_true hw) n hn

/-! ### LOAD, FREE and the rest keep the predecessors sound -/

/-- The same configurations and the same FREE contexts have the same chains. -/
theorem ChainsSoundIn.of_sameLoads {e e' : WatchEngine} (h : ChainsSoundIn e.watches) (hs : e.SameLoads e') :
    ChainsSoundIn e'.watches := by
  have chain (n : Nat) (w : WatchId) : predecessorChain e'.watches n w = predecessorChain e.watches n w := by
    induction n generalizing w with
    | zero => rfl
    | succ n ih =>
      have hsame := congrArg WatchConfig.predecessor (hs w).1
      cases hp : (tget e.watches w).config.predecessor with
      | none => rw [predecessorChain_succ_of_none hp, predecessorChain_succ_of_none (hsame.trans hp)]
      | some p => rw [predecessorChain_succ_of_some hp, predecessorChain_succ_of_some (hsame.trans hp), ih]
  intro w hw
  obtain ⟨hloop, hpred⟩ := h w (mt (hs w).2.2 hw)
  refine ⟨fun n => by rw [chain]; exact hloop n, fun p hp => mt (hs p).2.1 (hpred p ?_)⟩
  rw [← (hs w).1, hp]

/-- The context of a watch that no chain comes back to from its predecessor is replaced. -/
theorem ChainsSoundIn.of_loaded {v : Vector Watch 64} (h : ChainsSoundIn v) {w : WatchId} {x : Watch}
    (hx : x.state ≠ .free)
    (hpred : ∀ p, x.config.predecessor = some p →
      p ≠ w ∧ (tget v p).state ≠ .free ∧ ∀ n, predecessorChain v n p ≠ some w) :
    ChainsSoundIn (tset v w x) := by
  have other (y : WatchId) (hy : y ≠ w) : tget (tset v w x) y = tget v y := tget_tset_other v x hy
  have same (y : WatchId) (hy : y ≠ w) :
      (tget (tset v w x) y).config.predecessor = (tget v y).config.predecessor := by rw [other y hy]
  have noLoop (n : Nat) : predecessorChain (tset v w x) (n + 1) w ≠ some w := by
    cases hp : x.config.predecessor with
    | none => rw [predecessorChain_succ_of_none (by rw [tget_tset_same, hp])]; exact (nomatch ·)
    | some p =>
      rw [predecessorChain_succ_of_some (by rw [tget_tset_same, hp]),
        predecessorChain_congr same n p fun m _ => (hpred p hp).2.2 m]
      exact (hpred p hp).2.2 n
  intro y hy
  by_cases e : y = w
  · subst e
    refine ⟨noLoop, fun p hp => ?_⟩
    rw [tget_tset_same] at hp
    rw [other p (hpred p hp).1]
    exact (hpred p hp).2.1
  · rw [other y e] at hy ⊢
    refine ⟨fun n hloop => ?_, fun p hp => ?_⟩
    · by_cases havoid : ∀ m, m < n + 1 → predecessorChain (tset v w x) m y ≠ some w
      · have hback := predecessorChain_congr (fun z hz => (same z hz).symm) (n + 1) y havoid
        exact (h y hy).1 n (hback.trans hloop)
      · simp only [not_forall, not_not] at havoid
        obtain ⟨m, hm, hmw⟩ := havoid
        have hrest := predecessorChain_add (tset v w x) m (n + 1 - m) y
        rw [Nat.add_sub_cancel' hm.le, hloop, hmw, Option.bind_some] at hrest
        have hcycle := predecessorChain_add (tset v w x) (n + 1 - m) m w
        rw [Nat.sub_add_cancel hm.le, ← hrest, Option.bind_some, hmw] at hcycle
        exact noLoop n hcycle
    · by_cases ep : p = w
      · rw [ep, tget_tset_same]; exact hx
      · rw [other p ep]; exact (h y hy).2 p hp

/-- A context that no other names is made FREE. -/
theorem ChainsSoundIn.of_freed {v : Vector Watch 64} (h : ChainsSoundIn v) {w : WatchId}
    (hnamed : ∀ u, (tget v u).state ≠ .free → (tget v u).config.predecessor ≠ some w) :
    ChainsSoundIn (tset v w .freeContext) := by
  have other (y : WatchId) (hy : y ≠ w) : tget (tset v w .freeContext) y = tget v y := tget_tset_other v _ hy
  have avoids (n : Nat) (y : WatchId) (hne : y ≠ w) (hy : (tget v y).state ≠ .free) :
      predecessorChain v n y ≠ some w := by
    induction n generalizing y with
    | zero => exact fun e => hne (Option.some.inj e)
    | succ n ih =>
      cases hp : (tget v y).config.predecessor with
      | none => rw [predecessorChain_succ_of_none hp]; exact (nomatch ·)
      | some p =>
        rw [predecessorChain_succ_of_some hp]
        exact ih p (fun e => hnamed y hy (e ▸ hp)) ((h y hy).2 p hp)
  intro y hy
  have hne : y ≠ w := by
    rintro rfl
    rw [tget_tset_same] at hy
    exact hy rfl
  rw [other y hne] at hy ⊢
  refine ⟨fun n => ?_, fun p hp => ?_⟩
  · rw [predecessorChain_congr (fun z hz => by rw [other z hz]) (n + 1) y fun m _ => avoids m y hne hy]
    exact (h y hy).1 n
  · rw [other p fun e => hnamed y hy (e ▸ hp)]
    exact (h y hy).2 p hp

/-- Steps 3 and 4 of LOAD let a predecessor pass that is another watch, non-FREE, and not on a chain to the loaded watch
(R10). -/
theorem predecessorRefusal_eq_none {v : Vector Watch 64} {w p : WatchId} :
    predecessorRefusal v w (some p) = none ↔
      p ≠ w ∧ (tget v p).state ≠ .free ∧ walkReaches v w 64 p = false := by
  simp only [predecessorRefusal]
  split
  next h => exact iff_of_false (nomatch ·) fun ⟨hne, hfree, _⟩ => h.elim hne hfree
  next h =>
    obtain ⟨hne, hfree⟩ := not_or.1 h
    split
    next hw => exact iff_of_false (nomatch ·) fun ⟨_, _, e⟩ => by rw [hw] at e; cases e
    next hw => exact iff_of_true rfl ⟨hne, hfree, eq_false_of_ne_true hw⟩

/-- Settles O10: only LOAD and FREE change a predecessor, and their checks keep the predecessors sound. -/
theorem chainsStaySound : Obligations.ChainsStaySound := by
  intro c s t _ hs h
  rw [State.chainsSound_iff] at hs ⊢
  cases (State.event_of_exec h).table with
  | cleared he _ =>
    intro w hw
    rw [he, WatchEngine.cleared, tget_replicate] at hw
    exact absurd rfl hw
  | loaded cur w cfg _ _ hj he =>
    obtain ⟨-, -, hpass⟩ := WatchEngine.judgeLoad_ok hj
    rw [he]
    refine hs.of_loaded (nomatch ·) fun p hp => ?_
    have hp : cfg.predecessor = some p := hp
    rw [hp] at hpass
    obtain ⟨hne, hfree, hwalk⟩ := predecessorRefusal_eq_none.1 hpass
    exact ⟨hne, hfree, predecessorChain_ne_of_walk hwalk⟩
  | freed cur w _ _ _ hsucc he =>
    rw [he]
    refine hs.of_freed fun u hu hp => ?_
    have : hasSuccessor s.eng.watches w = true := hasSuccessor_iff.2 ⟨u, hu, hp⟩
    rw [hsucc] at this
    cases this
  | steps hsteps => exact hs.of_sameLoads hsteps.sameLoads

end Sys2Proof.Machine
end

/-! PROOFS. The rings in host memory, the setup and moderation, over every event: ring indices stay in range and the event in
flight goes into a released slot (O42), and the setup of an ENABLED part stays legal (O59). -/

section
namespace Sys2Proof.Machine

/-! ### Frames of the blocks that hold rings -/

/-- The base, the size, the head and the tail of the CQ. -/
def CommandUnit.ring (u : CommandUnit) : Addr × Nat × Nat × Nat := (u.base, u.sizeCode, u.head, u.tail)

/-- The base, the size, the head and the tail of the BQ. -/
def Fetcher.ring (f : Fetcher) : Addr × Nat × Nat × Nat := (f.base, f.sizeCode, f.head, f.tail)

/-- The Control Unit, the Event Writer, the rings of the CQ and the BQ and the limit in force are the same. -/
structure State.RingsKept (s t : State) : Prop where
  ctl : t.ctl = s.ctl
  evt : t.evt = s.evt
  cq : t.cmd.ring = s.cmd.ring
  bq : t.fetch.ring = s.fetch.ring
  limit : t.port.limitInForce = s.port.limitInForce

theorem State.RingsKept.refl (s : State) : s.RingsKept s := ⟨rfl, rfl, rfl, rfl, rfl⟩

theorem State.RingsKept.trans {s t u : State} (h : s.RingsKept t) (g : t.RingsKept u) : s.RingsKept u :=
  ⟨g.ctl.trans h.ctl, g.evt.trans h.evt, g.cq.trans h.cq, g.bq.trans h.bq, g.limit.trans h.limit⟩

theorem State.ringsKept_withEng (s : State) (e : WatchEngine) : s.RingsKept (s.withEng e) := ⟨rfl, rfl, rfl, rfl, rfl⟩

theorem State.ringsKept_withCap (s : State) (c : CaptureUnit) : s.RingsKept (s.withCap c) := ⟨rfl, rfl, rfl, rfl, rfl⟩

theorem CommandUnit.complete_ring (u : CommandUnit) (st : CmdStatus) : (u.complete st).ring = u.ring := by
  unfold CommandUnit.complete
  split <;> rfl

theorem State.ringsKept_complete (s : State) (st : CmdStatus) : s.RingsKept (s.complete st) :=
  ⟨rfl, rfl, s.cmd.complete_ring st, rfl, rfl⟩

theorem State.ringsKept_checkStart (s : State) : s.RingsKept s.checkStart := by
  obtain ⟨-, h⟩ | ⟨-, h⟩ := s.checkStart_cases
  · rw [h]
    exact .trans (t := (s.withAcq { s.acq with state := .running, heldCount := 0, heldStart := false }).withEng
      { s.eng with noticeWaiting := true }) ⟨rfl, rfl, rfl, rfl, rfl⟩ (State.ringsKept_complete _ _)
  · rw [h]; exact .refl s

theorem State.ringsKept_checkBufferFetch (s : State) : s.RingsKept s.checkBufferFetch := by
  rw [s.checkBufferFetch_eq]
  exact ⟨rfl, rfl, rfl, rfl, rfl⟩

theorem State.ringsKept_checkCommandFetch (s : State) : s.RingsKept s.checkCommandFetch := by
  obtain ⟨-, -, -, h⟩ | ⟨-, h⟩ := s.checkCommandFetch_cases
  · rw [h]; exact ⟨rfl, rfl, rfl, rfl, rfl⟩
  · rw [h]; exact .refl s

theorem State.ringsKept_closeSample (s : State) (halt : Option WatchId) (n : SampleNo) :
    s.RingsKept (s.closeSample halt n) := by
  have closed : s.RingsKept (s.withEng { s.eng with presented := none, begun := false }) := ⟨rfl, rfl, rfl, rfl, rfl⟩
  unfold State.closeSample
  cases halt with
  | none => exact closed.trans (State.ringsKept_checkStart _)
  | some w =>
    cases s.acq.state with
    | idle => exact closed.trans (State.ringsKept_checkStart _)
    | running => exact ⟨rfl, rfl, rfl, rfl, rfl⟩

/-- The four phases change the Capture Unit, the fetch state, the watches, the Report List and the last evaluated sample at
most. -/
theorem State.beforeClose_frame (s : State) (p : PresentedSample) :
    ∃ c f v r l, s.beforeClose p =
      { s with
        cap := c
        fetch := { s.fetch with fetch := f }
        eng := { s.eng with watches := v, reportList := r, lastEvaluated := l } } := by
  obtain ⟨v, r, he⟩ : ∃ v r, s.eng.evaluateAll p = { s.eng with watches := v, reportList := r } := ⟨_, _, rfl⟩
  unfold State.beforeClose
  generalize firedSet s.eng.watches p = fired
  rw [he]
  dsimp only
  rw [State.makeCaptureRequests_frame]
  unfold WatchEngine.succeedAll
  exact ⟨_, _, _, _, _, rfl⟩

theorem State.ringsKept_evaluateSample (s : State) (p : PresentedSample) : s.RingsKept (s.evaluateSample p) := by
  rw [s.evaluateSample_eq]
  refine .trans ?_ (State.ringsKept_closeSample _ _ _)
  obtain ⟨c, f, v, r, l, h⟩ := s.beforeClose_frame p
  rw [h]
  exact ⟨rfl, rfl, rfl, rfl, rfl⟩

theorem State.ringsKept_endDueEvaluation (s : State) : s.RingsKept s.endDueEvaluation := by
  obtain ⟨p, -, -, -, h⟩ | ⟨-, h⟩ := s.endDueEvaluation_cases
  · rw [h]
    split
    · exact (s.ringsKept_withEng s.eng.takeNotice).trans (State.ringsKept_evaluateSample _ p)
    · exact s.ringsKept_evaluateSample p
  · rw [h]; exact .refl s

theorem State.ringsKept_itemChosen (s : State) (x : EventContent) : s.RingsKept (s.itemChosen x) := by
  cases x with
  | captureDone d =>
    obtain ⟨p, -, -, -, h⟩ | ⟨p, -, -, -, h⟩ | ⟨-, h⟩ := s.captureDoneChosen_cases d.slot
    · refine .trans (t := s.withCap { s.cap with slots := tset s.cap.slots d.slot .freeSlot, cancelling := none })
        ⟨rfl, rfl, rfl, rfl, rfl⟩ ?_
      simp only [State.itemChosen, h]
      exact State.ringsKept_complete _ _
    · simp only [State.itemChosen, h]; exact ⟨rfl, rfl, rfl, rfl, rfl⟩
    · simp only [State.itemChosen, h]; exact ⟨rfl, rfl, rfl, rfl, rfl⟩
  | acqHalt r =>
    exact .trans (t := s.withAcq { s.acq with pendingHalt := none }) ⟨rfl, rfl, rfl, rfl, rfl⟩
      (State.ringsKept_checkStart _)
  | cmdDone d => exact ⟨rfl, rfl, rfl, rfl, rfl⟩
  | bufferReject r =>
    exact .trans (t := s.withFetch { s.fetch with rejections := s.fetch.rejections.drop 1 }) ⟨rfl, rfl, rfl, rfl, rfl⟩
      (State.ringsKept_checkBufferFetch _)
  | watchReport r => exact ⟨rfl, rfl, rfl, rfl, rfl⟩

/-! ### What an event does to the rings, the Event Writer and the Control Unit -/

/-- The Event Writer keeps its ring and its phase, and keeps or loses the event in flight (R130, R131). -/
structure EventWriter.RingKept (e e' : EventWriter) : Prop where
  size : e'.sizeCode = e.sizeCode
  head : e'.head = e.head
  tail : e'.tail = e.tail
  phase : e'.lapParity = e.lapParity
  flight : e'.inFlight = none ∨ e'.inFlight = e.inFlight

/-- The changes an event can make to the Control Unit, the Event Writer, the rings and the limit in force. -/
inductive State.RingChange (s : State) : State → Prop
  | kept : s.RingChange s
  | chosen (x : EventContent) : s.evt.inFlight = none → s.evt.fill < s.evt.size - 1 →
      s.RingChange (s.withEvt (s.evt.holding s.tick x))
  | holdoffEnded (i : Interrupt) :
      s.RingChange (s.withEvt { s.evt with holdoffTimer := none, moderation := 0, interrupt := i })
  | headMoved (v : Nat) : v < s.evt.size → ringDistance s.evt.size v s.evt.tail ≤ s.evt.fill →
      s.RingChange (s.withEvt { s.evt with head := v })
  | interruptSet (i : Interrupt) : s.RingChange (s.withEvt { s.evt with interrupt := i })
  | written : s.ctl.device = .enabled → s.RingChange (s.withEvt (s.evt.advance.count s.tick))
  | writtenFaulted : s.ctl.device = .faulted → s.RingChange (s.withEvt s.evt.advance)
  | cqTailMoved (v : Nat) : v < s.cmd.size → s.RingChange (s.withCmd { s.cmd with tail := v })
  | bqTailMoved (v : Nat) : v < s.fetch.size → s.RingChange (s.withFetch { s.fetch with tail := v })
  | cqHeadMoved : s.RingChange (s.withCmd { s.cmd with head := (s.cmd.head + 1) % s.cmd.size })
  | bqHeadMoved (n : Nat) : s.RingChange (s.withFetch { s.fetch with head := (s.fetch.head + n) % s.fetch.size })
  | requestChanged (q : LinkState) : s.RingChange (s.withEvt { s.evt with request := q })
  | controlChanged (x : Control) : x.device = s.ctl.device → x.checkedSetup = s.ctl.checkedSetup →
      s.RingChange (s.withCtl x)
  | stopped (x : Control) (e : EventWriter) (m : MemoryPort) : x.device ≠ .enabled → s.evt.RingKept e →
      s.RingChange { s with ctl := x, evt := e, port := m }
  | enabled (b : Setup) : b.legal = true → s.RingChange (s.enterEnabled b)
  | cleared (t : State) : t.ctl.device = .disabled → (t.cmd.head = 0 ∧ t.cmd.tail = 0) →
      (t.fetch.head = 0 ∧ t.fetch.tail = 0) → (t.evt.head = 0 ∧ t.evt.tail = 0) → t.evt.inFlight = none →
      s.RingChange t

/-- An event changes the rings by one such change, and keeps them beside it. -/
def State.RingEvent (s t : State) : Prop := ∃ u, s.RingChange u ∧ u.RingsKept t

theorem State.RingEvent.of_kept {s t : State} (h : s.RingsKept t) : s.RingEvent t := ⟨s, .kept, h⟩

theorem EventWriter.RingKept.stop {e e' : EventWriter} (h : e.RingKept e') (held : Option CmdDone) :
    e.RingKept (e'.stop held) := by
  refine ⟨h.size, h.head, h.tail, h.phase, ?_⟩
  unfold EventWriter.stop
  dsimp only
  split
  · exact h.flight
  · exact .inl rfl

theorem EventWriter.RingKept.withInterrupt {e e' : EventWriter} (h : e.RingKept e') (i : Interrupt) :
    e.RingKept { e' with interrupt := i } :=
  ⟨h.size, h.head, h.tail, h.phase, h.flight⟩

theorem EventWriter.RingKept.refl (e : EventWriter) : e.RingKept e := ⟨rfl, rfl, rfl, rfl, .inr rfl⟩

theorem State.ringEvent_enterFaulted {s u : State} (code : FaultCode) (he : s.evt.RingKept u.evt)
    (hc : u.cmd.ring = s.cmd.ring) (hf : u.fetch.ring = s.fetch.ring) : s.RingEvent (u.enterFaulted code) := by
  rw [u.enterFaulted_eq]
  exact ⟨_, .stopped _ _ u.port (by simp) ((he.stop u.cmd.held).withInterrupt _), rfl, rfl, hc, hf, rfl⟩

theorem State.ringEvent_endPassage {s t : State} (h : s.RingEvent t) : s.RingEvent t.endPassage := by
  obtain ⟨-, -, e⟩ | ⟨-, -, e⟩ | ⟨-, e⟩ := t.endPassage_cases
  · rw [e]; exact ⟨_, .cleared _ rfl ⟨rfl, rfl⟩ ⟨rfl, rfl⟩ ⟨rfl, rfl⟩ rfl, .refl _⟩
  · rw [e]; exact ⟨_, .cleared _ rfl ⟨rfl, rfl⟩ ⟨rfl, rfl⟩ ⟨rfl, rfl⟩ rfl, .refl _⟩
  · rw [e]; exact h

theorem State.ringEvent_leave (s : State) {d : DeviceState} (hd : d ≠ .enabled) : s.RingEvent (s.leave d) := by
  unfold State.leave
  refine State.ringEvent_endPassage ?_
  rw [s.stopBlocks_eq d hd]
  exact ⟨_, .stopped _ _ s.port hd ((EventWriter.RingKept.refl s.evt).stop s.cmd.held), rfl, rfl, rfl, rfl, rfl⟩

theorem CommandUnit.take_ring (u : CommandUnit) (r : CommandRecord) :
    (u.take r).ring = ({ u with head := (u.head + 1) % u.size } : CommandUnit).ring := by
  unfold CommandUnit.take
  dsimp only
  split
  · exact CommandUnit.complete_ring _ _
  · split
    · exact CommandUnit.complete_ring _ _
    · rfl

theorem State.cmdDoneWritten_ring (s : State) : s.cmdDoneWritten.cmd.ring = s.cmd.ring := by
  unfold State.cmdDoneWritten
  rw [(State.ringsKept_checkCommandFetch _).cq]
  split <;> rfl

theorem State.eqWritten_ok_cmd_ring (s : State) : (s.eqWritten .ok).cmd.ring = s.cmd.ring := by
  rw [s.eqWritten_ok]
  unfold State.eqWriteTold
  split
  · exact s.cmdDoneWritten_ring
  · rfl

theorem State.Delivered.ringEvent {s t : State} {tag : Tag} {ans : Answer} {data : ReadData} {q : Requester}
    (h : s.Delivered tag ans data q t) : s.RingEvent t := by
  have lost : s.evt.RingKept { s.evt with inFlight := none, request := .none } := ⟨rfl, rfl, rfl, rfl, .inl rfl⟩
  have same : s.evt.RingKept s.evt := .refl s.evt
  cases h with
  | setupAbsorbed _ => exact ⟨_, .controlChanged { s.ctl with setupRequest := .none } rfl rfl, .refl _⟩
  | setupFailed code _ _ => exact State.ringEvent_enterFaulted code same rfl rfl
  | setupTaken _ _ hl => exact ⟨_, .enabled _ hl, rfl, rfl, rfl, rfl, rfl⟩
  | recordTaken _ _ _ => exact ⟨_, .cqHeadMoved, rfl, rfl, s.cmd.take_ring _, rfl, rfl⟩
  | recordFailed _ _ _ => exact State.ringEvent_enterFaulted _ same rfl rfl
  | snapshotAnswered _ _ =>
    refine .of_kept (.trans (t := s.withCmd { s.cmd with snapshot := none, link := .none }) ⟨rfl, rfl, rfl, rfl, rfl⟩ ?_)
    exact State.ringsKept_complete _ _
  | batchTaken b _ _ _ =>
    refine ⟨_, .bqHeadMoved b.length, .trans ?_ (State.ringsKept_checkBufferFetch _)⟩
    exact ⟨rfl, rfl, rfl, rfl, rfl⟩
  | batchFailed b _ _ _ => exact State.ringEvent_enterFaulted _ same rfl rfl
  | eventAbsorbed hd _ => exact ⟨_, .stopped s.ctl _ s.port hd lost, rfl, rfl, rfl, rfl, rfl⟩
  | eventWritten hd _ =>
    have hcmd := s.eqWritten_ok_cmd_ring
    rw [s.eqWritten_ok_frame]
    exact ⟨_, .written hd, rfl, rfl, hcmd, rfl, rfl⟩
  | eventFailed _ _ => exact State.ringEvent_enterFaulted _ lost rfl rfl
  | eventWrittenFaulted hd _ => exact ⟨_, .writtenFaulted hd, .refl _⟩
  | eventFailedFaulted hd _ =>
    refine ⟨_, .stopped { s.ctl with multi := true } _ s.port (by simp [hd]) ?_, rfl, rfl, rfl, rfl, rfl⟩
    exact ⟨rfl, rfl, rfl, rfl, .inl rfl⟩
  | burstAnswered i _ =>
    exact .of_kept (.trans (t := s.setSlot i ((s.slot i).onResponse s.acq tag ans)) ⟨rfl, rfl, rfl, rfl, rfl⟩
      (State.ringsKept_checkStart _))
  | _ => exact .of_kept ⟨rfl, rfl, rfl, rfl, rfl⟩

/-- A change from a state with another Request Table is one from the state itself. -/
theorem State.RingEvent.of_setEntry {s t : State} {tag : Tag} {x : PortEntry} (h : (s.setEntry tag x).RingEvent t) :
    s.RingEvent t := by
  obtain ⟨u, hchange, hkept⟩ := h
  have moved (v : State) (hv : s.RingChange v) (huv : v.RingsKept u) : s.RingEvent t := ⟨v, hv, huv.trans hkept⟩
  cases hchange with
  | kept => exact moved _ .kept ⟨rfl, rfl, rfl, rfl, rfl⟩
  | chosen x h1 h2 => exact moved _ (.chosen x h1 h2) ⟨rfl, rfl, rfl, rfl, rfl⟩
  | holdoffEnded i => exact moved _ (.holdoffEnded i) ⟨rfl, rfl, rfl, rfl, rfl⟩
  | headMoved v h1 h2 => exact moved _ (.headMoved v h1 h2) ⟨rfl, rfl, rfl, rfl, rfl⟩
  | interruptSet i => exact moved _ (.interruptSet i) ⟨rfl, rfl, rfl, rfl, rfl⟩
  | written hd => exact moved _ (.written hd) ⟨rfl, rfl, rfl, rfl, rfl⟩
  | writtenFaulted hd => exact moved _ (.writtenFaulted hd) ⟨rfl, rfl, rfl, rfl, rfl⟩
  | cqTailMoved v hv => exact moved _ (.cqTailMoved v hv) ⟨rfl, rfl, rfl, rfl, rfl⟩
  | bqTailMoved v hv => exact moved _ (.bqTailMoved v hv) ⟨rfl, rfl, rfl, rfl, rfl⟩
  | cqHeadMoved => exact moved _ .cqHeadMoved ⟨rfl, rfl, rfl, rfl, rfl⟩
  | bqHeadMoved n => exact moved _ (.bqHeadMoved n) ⟨rfl, rfl, rfl, rfl, rfl⟩
  | requestChanged q => exact moved _ (.requestChanged q) ⟨rfl, rfl, rfl, rfl, rfl⟩
  | controlChanged x h1 h2 => exact moved _ (.controlChanged x h1 h2) ⟨rfl, rfl, rfl, rfl, rfl⟩
  | stopped x e m h1 h2 => exact moved _ (.stopped x e m h1 h2) ⟨rfl, rfl, rfl, rfl, rfl⟩
  | enabled b hb => exact moved _ (.enabled b hb) ⟨rfl, rfl, rfl, rfl, rfl⟩
  | cleared _ h1 h2 h3 h4 h5 => exact ⟨u, .cleared u h1 h2 h3 h4 h5, hkept⟩

theorem State.Event.ringEvent {c : Instr} {s t : State} (h : s.Event c t) : s.RingEvent t := by
  cases h with
  | evaluated p _ _ _ => exact .of_kept (s.ringsKept_evaluateSample p)
  | refused c k cur st _ _ _ _ => exact .of_kept (s.ringsKept_complete st)
  | loaded cur w cfg _ _ | armed cur w _ _ | freed cur w _ _ _ =>
    exact .of_kept ((s.ringsKept_withEng _).trans (State.ringsKept_complete _ _))
  | disarmed cur w _ _ =>
    exact .of_kept ((s.ringsKept_withEng _).trans (State.ringsKept_complete _ _))
  | startHeld c cur _ _ =>
    exact .of_kept (.trans (t := s.withAcq { s.acq with heldStart := true }) ⟨rfl, rfl, rfl, rfl, rfl⟩
      (State.ringsKept_checkStart _))
  | startTaken hready =>
    have hkept := s.ringsKept_checkStart
    rw [State.checkStart, if_pos hready] at hkept
    exact .of_kept hkept
  | stopped cur _ _ =>
    refine .of_kept (.trans (t := s.withAcq { s.acq with state := .idle }) ⟨rfl, rfl, rfl, rfl, rfl⟩
      ((State.ringsKept_withCap _ _).trans (State.ringsKept_complete _ _)))
  | granted q tag _ _ _ =>
    rw [s.issueGrant_frame]
    cases q with
    | control => exact ⟨_, .controlChanged { s.ctl with setupRequest := .outstanding } rfl rfl, rfl, rfl, rfl, rfl, rfl⟩
    | command => exact .of_kept ⟨rfl, rfl, rfl, rfl, rfl⟩
    | fetcher => exact .of_kept ⟨rfl, rfl, rfl, rfl, rfl⟩
    | writer => exact ⟨_, .requestChanged .outstanding, rfl, rfl, rfl, rfl, rfl⟩
    | slot i =>
      have hkept := State.ringsKept_checkStart (s.setSlot i ((s.slot i).onGrant s.acq tag))
      exact .of_kept ⟨hkept.ctl, hkept.evt, hkept.cq, hkept.bq, rfl⟩
  | lateTaken c tag size e _ _ => exact .of_kept ⟨rfl, rfl, rfl, rfl, rfl⟩
  | entryEnded c q tag size e x ans data u _ _ hdel => exact State.ringEvent_endPassage hdel.ringEvent.of_setEntry
  | chosen x hmay _ =>
    obtain ⟨-, hnone, hroom⟩ := State.mayChoose_iff.1 hmay
    have hkept := s.ringsKept_itemChosen x
    exact ⟨_, .chosen x hnone hroom, hkept.ctl, rfl, hkept.cq, hkept.bq, hkept.limit⟩
  | holdoffEnded e _ _ => exact ⟨_, .holdoffEnded _, .refl _⟩
  | rangeFault c code _ _ => exact State.ringEvent_enterFaulted code (.refl s.evt) rfl rfl
  | cqTailRaised v _ hv => exact ⟨_, .cqTailMoved _ hv, State.ringsKept_checkCommandFetch _⟩
  | bqTailRaised v _ hv => exact ⟨_, .bqTailMoved _ hv, State.ringsKept_checkBufferFetch _⟩
  | eqHeadMoved v _ hv hdist => exact ⟨_, .headMoved _ hv hdist, .refl _⟩
  | interruptWritten v => exact ⟨_, .interruptSet _, .refl _⟩
  | setupAddressWritten reg v a hd => exact ⟨_, .controlChanged { s.ctl with setupAddress := a } rfl rfl, .refl _⟩
  | enabledWritten c v _ _ _ _ =>
    exact ⟨_, .stopped _ s.evt _ (by simp) (.refl s.evt), .refl _⟩
  | resetWritten c v _ _ _ => exact s.ringEvent_leave (by decide)
  | disabledWritten c v _ _ _ _ => exact s.ringEvent_leave (by decide)
  | pinMoved c level _ => exact ⟨_, .cleared _ rfl ⟨rfl, rfl⟩ ⟨rfl, rfl⟩ ⟨rfl, rfl⟩ rfl, .refl _⟩
  | ticked _ => exact .of_kept (s.ringsKept_endDueEvaluation.trans ⟨rfl, rfl, rfl, rfl, rfl⟩)
  | noticeTaken _ _ _ => exact .of_kept (s.ringsKept_withEng _)
  | windowEnded w _ _ _ _ => exact .of_kept (s.ringsKept_withEng _)
  | expiryRaised w _ _ _ => exact .of_kept (s.ringsKept_withEng _)
  | evaluationBegun p _ _ _ => exact .of_kept (s.ringsKept_withEng _)
  | cancelTaken cur named _ _ _ _ => exact .of_kept (s.ringsKept_withCap _)
  | stays _ => exact .of_kept (.refl s)
  | arrived _ _ | snapshotTaken _ _ _ _ => exact .of_kept ⟨rfl, rfl, rfl, rfl, rfl⟩

end Sys2Proof.Machine
end

/-! PROOFS. Ring indices and the event in flight (O42), the setup and moderation (O59). -/

section
namespace Sys2Proof.Machine

/-! ### Ring indices (O42) -/

/-- Head and tail of a ring lie below its size. -/
def RingInRange (ring : Addr × Nat × Nat × Nat) : Prop :=
  ring.2.2.1 < 2 ^ ring.2.1 ∧ ring.2.2.2 < 2 ^ ring.2.1

theorem State.indicesInRange_iff (s : State) :
    s.IndicesInRange ↔ RingInRange s.cmd.ring ∧ RingInRange s.fetch.ring ∧
      (s.evt.head < s.evt.size ∧ s.evt.tail < s.evt.size) := .rfl

theorem CommandUnit.size_pos (u : CommandUnit) : 0 < u.size := Nat.two_pow_pos _

theorem Fetcher.size_pos (f : Fetcher) : 0 < f.size := Nat.two_pow_pos _

theorem EventWriter.size_pos (e : EventWriter) : 0 < e.size := Nat.two_pow_pos _

/-- The ring of the Event Writer, once an event is written and counted (R116, R123). -/
theorem EventWriter.count_advance_inRange {e : EventWriter} (h : e.head < e.size ∧ e.tail < e.size) (tick : Tick) :
    (e.advance.count tick).head < (e.advance.count tick).size ∧
      (e.advance.count tick).tail < (e.advance.count tick).size := by
  obtain ⟨hsize, hhead, htail⟩ := e.count_advance_frame tick
  rw [hsize, hhead, htail]
  exact ⟨h.1, Nat.mod_lt _ e.size_pos⟩

theorem EventWriter.RingKept.size_eq {e e' : EventWriter} (h : e.RingKept e') : e'.size = e.size := by
  simp only [EventWriter.size, h.size]

theorem State.RingChange.indicesInRange {s u : State} (h : s.RingChange u) (hs : s.IndicesInRange) :
    u.IndicesInRange := by
  obtain ⟨⟨hch, hct⟩, ⟨hfh, hft⟩, ⟨heh, het⟩⟩ := hs
  cases h with
  | headMoved v hv _ => exact ⟨⟨hch, hct⟩, ⟨hfh, hft⟩, ⟨hv, het⟩⟩
  | written _ => exact ⟨⟨hch, hct⟩, ⟨hfh, hft⟩, EventWriter.count_advance_inRange ⟨heh, het⟩ s.tick⟩
  | writtenFaulted _ => exact ⟨⟨hch, hct⟩, ⟨hfh, hft⟩, heh, Nat.mod_lt _ s.evt.size_pos⟩
  | cqTailMoved v hv => exact ⟨⟨hch, hv⟩, ⟨hfh, hft⟩, ⟨heh, het⟩⟩
  | bqTailMoved v hv => exact ⟨⟨hch, hct⟩, ⟨hfh, hv⟩, ⟨heh, het⟩⟩
  | cqHeadMoved => exact ⟨⟨Nat.mod_lt _ s.cmd.size_pos, hct⟩, ⟨hfh, hft⟩, ⟨heh, het⟩⟩
  | bqHeadMoved n => exact ⟨⟨hch, hct⟩, ⟨Nat.mod_lt _ s.fetch.size_pos, hft⟩, ⟨heh, het⟩⟩
  | stopped x e m _ he =>
    refine ⟨⟨hch, hct⟩, ⟨hfh, hft⟩, ?_⟩
    dsimp only
    rw [he.size_eq, he.head, he.tail]
    exact ⟨heh, het⟩
  | enabled b _ =>
    exact ⟨⟨Nat.two_pow_pos _, Nat.two_pow_pos _⟩, ⟨Nat.two_pow_pos _, Nat.two_pow_pos _⟩, Nat.two_pow_pos _,
      Nat.two_pow_pos _⟩
  | cleared _ _ hc hf he _ =>
    obtain ⟨hch, hct⟩ := hc
    obtain ⟨hfh, hft⟩ := hf
    obtain ⟨heh, het⟩ := he
    simp only [State.IndicesInRange, hch, hct, hfh, hft, heh, het]
    exact ⟨⟨u.cmd.size_pos, u.cmd.size_pos⟩, ⟨u.fetch.size_pos, u.fetch.size_pos⟩, u.evt.size_pos, u.evt.size_pos⟩
  | _ => exact ⟨⟨hch, hct⟩, ⟨hfh, hft⟩, ⟨heh, het⟩⟩

theorem State.RingsKept.indicesInRange {s t : State} (h : s.RingsKept t) (hs : s.IndicesInRange) : t.IndicesInRange := by
  rw [State.indicesInRange_iff] at hs ⊢
  rwa [h.cq, h.bq, h.evt]

/-- Where the event in flight goes is a matter of the Event Writer alone. -/
def EventWriter.SlotReleased (e : EventWriter) : Prop :=
  (e.head < e.size ∧ e.tail < e.size) ∧
    ∀ f, e.inFlight = some f → f.index = e.tail ∧ f.phase = e.lapParity ∧ e.fill < e.size - 1

theorem State.eventSlotReleased_iff (s : State) : s.EventSlotReleased ↔ s.evt.SlotReleased := .rfl

theorem EventWriter.SlotReleased.of_ringKept {e e' : EventWriter} (h : e.SlotReleased) (he : e.RingKept e') :
    e'.SlotReleased := by
  obtain ⟨hrange, hflight⟩ := h
  have hfill : e'.fill = e.fill := by simp only [EventWriter.fill, he.size_eq, he.head, he.tail]
  refine ⟨by rwa [he.size_eq, he.head, he.tail], fun f hf => ?_⟩
  rw [he.tail, he.phase, hfill, he.size_eq]
  obtain hnone | hsame := he.flight
  · rw [hnone] at hf; cases hf
  · exact hflight f (hsame ▸ hf)

theorem EventWriter.slotReleased_of_none {e : EventWriter} (h : e.head < e.size ∧ e.tail < e.size)
    (hnone : e.inFlight = none) : e.SlotReleased :=
  ⟨h, fun f hf => by rw [hnone] at hf; cases hf⟩

theorem State.RingChange.slotReleased {s u : State} (h : s.RingChange u) (hs : s.evt.SlotReleased) :
    u.evt.SlotReleased := by
  have hrange := hs.1
  cases h with
  | chosen x _ hroom => exact ⟨hrange, fun f hf => by cases hf; exact ⟨rfl, rfl, hroom⟩⟩
  | headMoved v hv hdist =>
    refine ⟨⟨hv, hrange.2⟩, fun f hf => ?_⟩
    obtain ⟨hindex, hphase, hroom⟩ := hs.2 f hf
    exact ⟨hindex, hphase, hdist.trans_lt hroom⟩
  | written _ =>
    refine EventWriter.slotReleased_of_none (EventWriter.count_advance_inRange hrange s.tick) ?_
    rw [State.withEvt_evt, EventWriter.count_frame]
    rfl
  | writtenFaulted _ => exact EventWriter.slotReleased_of_none ⟨hrange.1, Nat.mod_lt _ s.evt.size_pos⟩ rfl
  | stopped x e m _ he => exact hs.of_ringKept he
  | enabled b _ => exact EventWriter.slotReleased_of_none ⟨Nat.two_pow_pos _, Nat.two_pow_pos _⟩ rfl
  | cleared _ _ _ _ he hnone =>
    obtain ⟨heh, het⟩ := he
    refine EventWriter.slotReleased_of_none ?_ hnone
    rw [heh, het]
    exact ⟨u.evt.size_pos, u.evt.size_pos⟩
  | _ => exact hs

/-- Settles O42: each change of the rings keeps the indices in range, and the event in flight at the tail of an EQ with
room. -/
theorem ringIndicesStaySound : Obligations.RingIndicesStaySound := by
  intro c s t h
  obtain ⟨u, hchange, hkept⟩ := (State.event_of_exec h).ringEvent
  refine ⟨fun hs => hkept.indicesInRange (hchange.indicesInRange hs), fun hs => ?_⟩
  rw [State.eventSlotReleased_iff] at hs ⊢
  rw [hkept.evt]
  exact hchange.slotReleased hs

/-! ### Setup and moderation (O59) -/

theorem State.RingsKept.setupSound {s t : State} (h : s.RingsKept t) (hs : s.SetupSound) : t.SetupSound := by
  intro hd
  rw [h.ctl] at hd
  obtain ⟨b, hb, hlegal, hcq, hbq, heq, hlimit⟩ := hs hd
  have hcmd := h.cq
  have hfetch := h.bq
  simp only [CommandUnit.ring, Fetcher.ring, Prod.mk.injEq] at hcmd hfetch
  exact ⟨b, h.ctl ▸ hb, hlegal, by rwa [hcmd.1, hcmd.2.1], by rwa [hfetch.1, hfetch.2.1], by rwa [h.evt],
    h.limit.trans hlimit⟩

theorem State.RingChange.setupSound {s u : State} (h : s.RingChange u) (hs : s.SetupSound) : u.SetupSound := by
  intro hd
  cases h with
  | stopped x e m hx _ => exact absurd hd hx
  | cleared _ hdisabled _ _ _ _ => rw [hdisabled] at hd; cases hd
  | enabled b hlegal => exact ⟨b, rfl, hlegal, ⟨rfl, rfl⟩, ⟨rfl, rfl⟩, ⟨rfl, rfl, rfl, rfl⟩, rfl⟩
  | controlChanged x hx hchecked =>
    obtain ⟨b, hb, hrest⟩ := hs (hx ▸ hd)
    exact ⟨b, hchecked.trans hb, hrest⟩
  | written _ =>
    obtain ⟨b, hb, hlegal, hcq, hbq, heq, hlimit⟩ := hs hd
    refine ⟨b, hb, hlegal, hcq, hbq, ?_, hlimit⟩
    rw [State.withEvt_evt, EventWriter.count_frame]
    exact heq
  | _ => exact hs hd

/-- The moderation count is below the threshold, and the holdoff timer runs only while an event is counted. -/
def EventWriter.ModerationSound (e : EventWriter) : Prop :=
  e.moderation < e.threshold ∧ (e.holdoffTimer ≠ none → 0 < e.moderation ∧ 0 < e.holdoff)

theorem State.moderationSound_iff (s : State) :
    s.ModerationSound ↔ (s.ctl.device = .enabled → s.evt.ModerationSound) := .rfl

/-- An event counted keeps moderation sound (R123). -/
theorem EventWriter.ModerationSound.count {e : EventWriter} (h : e.ModerationSound) (tick : Tick) :
    (e.count tick).ModerationSound := by
  obtain ⟨hbelow, htimer⟩ := h
  by_cases ht : e.threshold ≤ e.moderation + 1
  · rw [EventWriter.count_of_threshold ht]
    exact ⟨Nat.zero_lt_of_lt hbelow, fun hn => absurd rfl hn⟩
  · rw [EventWriter.count_below ht]
    refine ⟨Nat.lt_of_not_le ht, fun hn => ⟨Nat.succ_pos _, ?_⟩⟩
    cases hx : e.holdoffTimer with
    | some x => exact (htimer (by simp [hx])).2
    | none =>
      by_contra hzero
      refine hn ?_
      have hzero : e.holdoff = 0 := Nat.eq_zero_of_not_pos hzero
      simp [hx, hzero]

theorem Setup.legal_iff (b : Setup) :
    b.legal = true ↔ aligned64 b.cqBase = true ∧ aligned64 b.bqBase = true ∧ aligned64 b.eqBase = true ∧
      (4 ≤ b.cqSizeCode ∧ b.cqSizeCode ≤ 12) ∧ (4 ≤ b.bqSizeCode ∧ b.bqSizeCode ≤ 12) ∧
      (5 ≤ b.eqSizeCode ∧ b.eqSizeCode ≤ 13) ∧ (1 ≤ b.threshold ∧ b.threshold ≤ 255) ∧
      b.holdoff ≤ Config.max24 ∧ b.responseLimit ≤ Config.max24 := by
  simp [Setup.legal, and_assoc]

theorem State.RingChange.moderationSound {s u : State} (h : s.RingChange u) (hs : s.ModerationSound) :
    u.ModerationSound := by
  rw [State.moderationSound_iff] at hs ⊢
  intro hd
  cases h with
  | stopped x e m hx _ => exact absurd hd hx
  | cleared _ hdisabled _ _ _ _ => rw [hdisabled] at hd; cases hd
  | enabled b hlegal =>
    obtain ⟨-, -, -, -, -, -, ⟨hthreshold, -⟩, -⟩ := b.legal_iff.1 hlegal
    exact ⟨hthreshold, fun hn => absurd rfl hn⟩
  | controlChanged x hx _ => exact hs (hx ▸ hd)
  | written _ => exact EventWriter.ModerationSound.count (e := s.evt.advance) (hs hd) s.tick
  | holdoffEnded i => exact ⟨Nat.zero_lt_of_lt (hs hd).1, fun hn => absurd rfl hn⟩
  | _ => exact hs hd

/-- Settles O59: each change of the rings keeps the setup of an ENABLED part, and its moderation. -/
theorem setupStaysSound : Obligations.SetupStaysSound := by
  intro c s t h
  obtain ⟨u, hchange, hkept⟩ := (State.event_of_exec h).ringEvent
  refine ⟨fun hs => hkept.setupSound (hchange.setupSound hs), fun hs => ?_⟩
  have hu := hchange.moderationSound hs
  rw [State.moderationSound_iff] at hu ⊢
  rwa [hkept.ctl, hkept.evt]

end Sys2Proof.Machine
end

/-! PROOFS. Acquisition (chapter 3): the History Ring stays in form, the run and its presented sample stay sound, and no START
is left held once its conditions hold (O23). -/

section
namespace Sys2Proof.Machine

/-! ### The steps of a run -/

/-- The tick count, the device state, the Acquisition Unit and the presented sample are the same. -/
structure State.RunKept (s t : State) : Prop where
  tick : t.tick = s.tick
  device : t.ctl.device = s.ctl.device
  acq : t.acq = s.acq
  presented : t.eng.presented = s.eng.presented
  begun : t.eng.begun = s.eng.begun
  notice : t.eng.noticeWaiting = s.eng.noticeWaiting

/-- One step of a run: what an event does at once to the Acquisition Unit, to the presented sample, and to what they depend
on. An event is a sequence of these. -/
inductive State.RunStep (s : State) : State → Prop
  | kept (t : State) : s.RunKept t → s.RunStep t
  | arrived (word : Word) : s.acceptsEdge = true → s.RunStep (s.arrive word)
  | closed : s.RunStep (s.withEng { s.eng with presented := none, begun := false })
  | begun (p : PresentedSample) : s.eng.presented = some p → s.eng.noticeWaiting = false →
      s.RunStep (s.withEng { s.eng with begun := true })
  | noticed (e : WatchEngine) : e.presented = s.eng.presented → e.begun = s.eng.begun → e.noticeWaiting = false →
      s.RunStep (s.withEng e)
  | held : s.ctl.device = .enabled → s.acq.state = .idle →
      s.RunStep (s.withAcq { s.acq with heldStart := true })
  | started : s.startReady = true → s.RunStep s.takeStart
  | ended (h : Option HaltRecord) : h ≠ none ∨ h = s.acq.pendingHalt →
      s.RunStep (s.withAcq { s.acq with state := .idle, pendingHalt := h })
  | haltChosen : s.RunStep (s.withAcq { s.acq with pendingHalt := none })
  | left (t : State) : t.ctl.device ≠ .enabled → t.acq = { s.acq with state := .idle, heldStart := false } →
      t.eng.presented = none → (t.eng.begun = true → s.eng.presented = none ∧ s.eng.begun = true) → t.tick = s.tick →
      s.RunStep t
  | cleared (t : State) : t.acq.state = .idle → t.acq.pendingHalt = none →
      (t.acq.ring = s.acq.ring ∨ t.acq.ring = []) → t.acq.heldCount = 0 →
      t.eng.presented = none → t.eng.begun = false → (t.ctl.device ≠ .enabled → t.acq.heldStart = false) → s.RunStep t
  | deviceMoved (x : Control) (m : MemoryPort) : s.ctl.device ≠ .enabled → x.device ≠ .enabled →
      s.RunStep { s with ctl := x, port := m }
  | ticked : (∀ p, s.eng.presented = some p → s.ctl.device = .enabled → (s.tick + 1 - p.arrivalTick).toNat < 8) →
      s.RunStep (s.withTick (s.tick + 1))

abbrev State.RunSteps : State → State → Prop := Relation.ReflTransGen State.RunStep

theorem State.RunSteps.of_kept {s t : State} (h : s.RunKept t) : s.RunSteps t := .single (.kept t h)

theorem State.RunKept.withEng (s : State) {e : WatchEngine} (hp : e.presented = s.eng.presented)
    (hb : e.begun = s.eng.begun) (hn : e.noticeWaiting = s.eng.noticeWaiting) : s.RunKept (s.withEng e) :=
  ⟨rfl, rfl, rfl, hp, hb, hn⟩

theorem State.RunKept.complete {s t : State} (h : s.RunKept t) (st : CmdStatus) : s.RunKept (t.complete st) :=
  ⟨h.tick, h.device, h.acq, h.presented, h.begun, h.notice⟩

theorem State.acceptsEdge_iff {s : State} :
    s.acceptsEdge = true ↔ s.ctl.device = .enabled ∧ s.acq.state = .running ∧ s.eng.presented = none := by
  simp [State.acceptsEdge, State.sampleOutstanding, and_assoc]

/-! ### Each step keeps the ring in form and the run sound -/

theorem State.RunStep.ringSound {s t : State} (h : s.RunStep t) (hs : s.RingSound) : t.RingSound := by
  obtain ⟨hwf, hheld⟩ := hs
  cases h with
  | kept _ hk => rw [State.RingSound, hk.acq]; exact ⟨hwf, hheld⟩
  | arrived word _ =>
    refine ⟨ringWf_ringWrite _ _ hwf, ?_⟩
    simp only [State.arrive, Acquisition.accept]
    split <;> omega
  | left _ _ hacq _ _ _ => rw [State.RingSound, hacq]; exact ⟨hwf, hheld⟩
  | cleared _ _ _ hring hcount _ _ _ =>
    refine ⟨?_, hcount ▸ Nat.zero_le _⟩
    obtain e | e := hring <;> rw [e]
    · exact hwf
    · rfl
  | started _ => exact ⟨hwf, Nat.zero_le _⟩
  | _ => exact ⟨hwf, hheld⟩

/-- After an arrival the newest sample is the one that arrived (R55, R57). -/
theorem Acquisition.accept_newest (a : Acquisition) (word : Word) (tick : Tick) :
    (a.accept word tick).newest = some a.sampleCounter := by
  have hpos : (a.accept word tick).heldCount ≠ 0 := by
    simp only [Acquisition.accept]
    split
    next h => rw [h]; decide
    next => omega
  rw [Acquisition.newest, if_neg hpos]
  simp [Acquisition.accept]

/-- The entry of the sample that arrived is its own, and another position's is as it was (R55, R58). -/
theorem Acquisition.accept_entryOf {a : Acquisition} (h : ringWf a.ring = true) (word : Word) (tick : Tick)
    (k : SampleNo) :
    (a.accept word tick).entryOf k =
      if ringPosition k = ringPosition a.sampleCounter then { data := word, tickLow := tick.setWidth 32 }
      else a.entryOf k :=
  ringRead_ringWrite _ _ _ h

theorem State.runSound_arrive {s : State} (hring : s.RingSound) (hs : s.RunSound) (hacc : s.acceptsEdge = true)
    (word : Word) : (s.arrive word).RunSound := by
  obtain ⟨hd, hrun, hnone⟩ := State.acceptsEdge_iff.1 hacc
  obtain ⟨hhalt, hstart, -, -, hbegun⟩ := hs
  refine ⟨hhalt, hstart, fun e => absurd hd e, fun p hp => ?_, fun e => absurd hnone (hbegun e).1⟩
  obtain rfl := Option.some.inj hp
  refine ⟨?_, Acquisition.accept_newest _ _ _, ?_⟩
  · simp [State.arrive]
  · exact (Acquisition.accept_entryOf hring.1 _ _ _).trans (if_pos rfl)

theorem State.runSound_takeStart {s : State} (hs : s.RunSound) (hready : s.startReady = true) : s.takeStart.RunSound := by
  obtain ⟨hd, -, hnone, -, hhalt⟩ := s.startReady_iff.1 hready
  obtain ⟨-, -, -, -, hbegun⟩ := hs
  have hnone' : s.takeStart.eng.presented = none := hnone
  exact ⟨fun e => absurd hhalt e, (nomatch ·), fun e => absurd hd e,
    fun p hp => (by cases hnone'.symm.trans hp), fun e => absurd hnone (hbegun e).1⟩

theorem State.RunStep.runSound {s t : State} (h : s.RunStep t) (hring : s.RingSound) (hs : s.RunSound) : t.RunSound := by
  have hsound := hs
  obtain ⟨hhalt, hstart, hleft, hpres, hbegun⟩ := hs
  cases h with
  | kept _ hk =>
    simp only [State.RunSound, hk.tick, hk.device, hk.acq, hk.presented, hk.begun, hk.notice]
    exact hsound
  | arrived word hacc => exact State.runSound_arrive hring hsound hacc word
  | closed => exact ⟨hhalt, hstart, fun e => ⟨(hleft e).1, (hleft e).2.1, rfl⟩, fun _ e => (nomatch e), (nomatch ·)⟩
  | begun p hp hn =>
    exact ⟨hhalt, hstart, hleft, hpres, fun _ => ⟨by rw [State.withEng_eng, hp]; exact (nomatch ·), hn⟩⟩
  | noticed e hp hb hn =>
    refine ⟨hhalt, hstart, ?_, ?_, ?_⟩
    · rw [State.withEng_eng, hp]; exact hleft
    · rw [State.withEng_eng, hp]; exact hpres
    · rw [State.withEng_eng, hb, hp]; exact fun e => ⟨(hbegun e).1, hn⟩
  | held hd hidle => exact ⟨hhalt, fun _ => hidle, fun e => absurd hd e, hpres, hbegun⟩
  | started hready => exact State.runSound_takeStart hsound hready
  | ended h _ => exact ⟨fun _ => rfl, fun _ => rfl, fun e => ⟨rfl, (hleft e).2⟩, hpres, hbegun⟩
  | haltChosen => exact ⟨fun e => absurd rfl e, hstart, hleft, hpres, hbegun⟩
  | left _ hd hacq hnone hb _ =>
    have idle : t.acq.state = .idle := by rw [hacq]
    have dropped : t.acq.heldStart = false := by rw [hacq]
    refine ⟨fun _ => idle, fun _ => idle, fun _ => ⟨idle, dropped, hnone⟩, fun p hp => (by cases hnone.symm.trans hp),
      fun e => ?_⟩
    obtain ⟨hp, hb⟩ := hb e
    exact absurd hp (hbegun hb).1
  | cleared _ hidle _ _ _ hnone hb hheld =>
    exact ⟨fun _ => hidle, fun _ => hidle, fun e => ⟨hidle, hheld e, hnone⟩, fun p hp => (by cases hnone.symm.trans hp),
      fun e => (by cases hb.symm.trans e)⟩
  | deviceMoved x m hd _ => exact ⟨hhalt, hstart, fun _ => hleft hd, hpres, hbegun⟩
  | ticked hdue =>
    refine ⟨hhalt, hstart, hleft, fun p hp => ⟨?_, (hpres p hp).2⟩, hbegun⟩
    refine hdue p hp ?_
    by_contra hd
    cases (hleft hd).2.2.symm.trans hp

theorem State.RunSteps.sound {s t : State} (h : s.RunSteps t) (hs : s.RingSound) :
    t.RingSound ∧ (s.RunSound → t.RunSound) := by
  induction h with
  | refl => exact ⟨hs, id⟩
  | tail _ hlast ih => exact ⟨hlast.ringSound ih.1, fun g => hlast.runSound ih.1 (ih.2 g)⟩

/-! ### Events as sequences of steps -/

theorem State.runSteps_checkStart (s : State) : s.RunSteps s.checkStart := by
  obtain ⟨hready, h⟩ | ⟨-, h⟩ := s.checkStart_cases
  · rw [h]; exact .single (.started hready)
  · rw [h]

theorem State.runSteps_closeSample (s : State) (halt : Option WatchId) (n : SampleNo) :
    s.RunSteps (s.closeSample halt n) := by
  unfold State.closeSample
  cases halt with
  | none => exact .head .closed (State.runSteps_checkStart _)
  | some w =>
    cases s.acq.state with
    | idle => exact .head .closed (State.runSteps_checkStart _)
    | running =>
      exact .head .closed (.head (.ended (some { watch := w, sample := n }) (.inl (nomatch ·)))
        (State.RunSteps.of_kept ⟨rfl, rfl, rfl, rfl, rfl, rfl⟩))

theorem State.runSteps_evaluateSample (s : State) (p : PresentedSample) : s.RunSteps (s.evaluateSample p) := by
  have phases : s.RunSteps (s.beforeClose p) := by
    obtain ⟨c, f, v, r, l, h⟩ := s.beforeClose_frame p
    rw [h]
    exact State.RunSteps.of_kept ⟨rfl, rfl, rfl, rfl, rfl, rfl⟩
  rw [s.evaluateSample_eq]
  exact phases.trans (State.runSteps_closeSample _ _ _)

/-- The close of a sample leaves none presented, and none begun. -/
theorem State.closeSample_closed (s : State) (halt : Option WatchId) (n : SampleNo) :
    (s.closeSample halt n).eng.presented = none ∧ (s.closeSample halt n).eng.begun = false := by
  have checked : ((s.withEng { s.eng with presented := none, begun := false }).checkStart).eng.presented = none ∧
      ((s.withEng { s.eng with presented := none, begun := false }).checkStart).eng.begun = false := by
    rw [State.checkStart_frame]
    exact ⟨rfl, rfl⟩
  unfold State.closeSample
  cases halt with
  | none => exact checked
  | some w =>
    cases s.acq.state with
    | idle => exact checked
    | running => exact ⟨rfl, rfl⟩

theorem State.evaluateSample_closed (s : State) (p : PresentedSample) :
    (s.evaluateSample p).eng.presented = none ∧ (s.evaluateSample p).eng.begun = false := by
  rw [s.evaluateSample_eq]
  exact State.closeSample_closed _ _ _

theorem State.closePresented_closed (s : State) :
    s.closePresented.eng.presented = none ∧
      (s.closePresented.eng.begun = true → s.eng.presented = none ∧ s.eng.begun = true) := by
  unfold State.closePresented
  split
  next h => exact ⟨h, fun e => ⟨h, e⟩⟩
  next p h =>
    split
    next => exact ⟨(s.evaluateSample_closed p).1, fun e => by rw [(s.evaluateSample_closed p).2] at e; cases e⟩
    next hb => exact ⟨rfl, fun e => absurd e hb⟩

theorem State.stopBlocks_closed (s : State) (d : DeviceState) :
    (s.stopBlocks d).eng.presented = none ∧
      ((s.stopBlocks d).eng.begun = true → s.eng.presented = none ∧ s.eng.begun = true) :=
  State.closePresented_closed _

theorem State.runSteps_enterFaulted {s u : State} (code : FaultCode) (h : s.RunKept u) : s.RunSteps (u.enterFaulted code) := by
  refine .trans (State.RunSteps.of_kept h) (.single ?_)
  obtain ⟨hnone, hbegun⟩ := u.stopBlocks_closed .faulted
  rw [u.enterFaulted_eq]
  exact .left _ (by simp) rfl hnone hbegun rfl

theorem State.runSteps_endPassage {s t : State} (h : s.RunSteps t) : s.RunSteps t.endPassage := by
  obtain ⟨-, -, e⟩ | ⟨-, -, e⟩ | ⟨-, e⟩ := t.endPassage_cases
  · rw [e]; exact h.tail (.cleared _ rfl rfl (.inl rfl) rfl rfl rfl fun _ => rfl)
  · rw [e]; exact h.tail (.cleared _ rfl rfl (.inl rfl) rfl rfl rfl fun _ => rfl)
  · rw [e]; exact h

theorem State.runSteps_leave (s : State) {d : DeviceState} (hd : d ≠ .enabled) : s.RunSteps (s.leave d) := by
  unfold State.leave
  refine State.runSteps_endPassage (.single ?_)
  obtain ⟨hnone, hbegun⟩ := s.stopBlocks_closed d
  rw [s.stopBlocks_eq d hd]
  exact .left _ hd rfl hnone hbegun rfl

/-- While the part is STARTING no START is held, so none is at the entry into ENABLED. -/
theorem State.Delivered.runSteps {s t : State} {tag : Tag} {ans : Answer} {data : ReadData} {q : Requester}
    (h : s.Delivered tag ans data q t) : s.RunSteps t := by
  cases h with
  | setupFailed code _ _ => exact State.runSteps_enterFaulted code ⟨rfl, rfl, rfl, rfl, rfl, rfl⟩
  | setupTaken hd _ _ =>
    exact .single (.cleared _ rfl rfl (.inl rfl) rfl rfl rfl fun e => absurd rfl e)
  | recordFailed _ _ _ => exact State.runSteps_enterFaulted _ ⟨rfl, rfl, rfl, rfl, rfl, rfl⟩
  | batchTaken b _ _ _ => rw [s.bqRead_ok_frame]; exact State.RunSteps.of_kept ⟨rfl, rfl, rfl, rfl, rfl, rfl⟩
  | batchFailed b _ _ _ => exact State.runSteps_enterFaulted _ ⟨rfl, rfl, rfl, rfl, rfl, rfl⟩
  | eventWritten _ _ => rw [s.eqWritten_ok_frame]; exact State.RunSteps.of_kept ⟨rfl, rfl, rfl, rfl, rfl, rfl⟩
  | eventFailed _ _ => exact State.runSteps_enterFaulted _ ⟨rfl, rfl, rfl, rfl, rfl, rfl⟩
  | burstAnswered i _ =>
    exact .head (.kept (s.setSlot i _) ⟨rfl, rfl, rfl, rfl, rfl, rfl⟩) (State.runSteps_checkStart _)
  | _ => exact State.RunSteps.of_kept ⟨rfl, rfl, rfl, rfl, rfl, rfl⟩

theorem State.runSteps_itemChosen (s : State) (x : EventContent) : s.RunSteps (s.itemChosen x) := by
  cases x with
  | captureDone d =>
    simp only [State.itemChosen]
    rw [State.captureDoneChosen_frame]
    exact State.RunSteps.of_kept ⟨rfl, rfl, rfl, rfl, rfl, rfl⟩
  | acqHalt r => exact .head .haltChosen (State.runSteps_checkStart _)
  | cmdDone d => exact State.RunSteps.of_kept ⟨rfl, rfl, rfl, rfl, rfl, rfl⟩
  | bufferReject r =>
    simp only [State.itemChosen]
    rw [State.checkBufferFetch_eq]
    exact State.RunSteps.of_kept ⟨rfl, rfl, rfl, rfl, rfl, rfl⟩
  | watchReport r => exact State.RunSteps.of_kept (.withEng s (by rfl) (by rfl) (by rfl))

theorem State.noticed_takeNotice (s : State) : s.RunStep (s.withEng s.eng.takeNotice) := by
  rw [s.eng.takeNotice_frame]
  exact .noticed _ rfl rfl rfl

theorem State.runSteps_tick (s : State) : s.RunSteps (s.endDueEvaluation.withTick (s.tick + 1)) := by
  have htick : s.endDueEvaluation.tick = s.tick := congrArg Prod.fst s.tickAndDevice_endDueEvaluation
  rw [← htick]
  obtain ⟨p, -, -, -, h⟩ | ⟨hnot, h⟩ := s.endDueEvaluation_cases
  · have evaluated : s.RunSteps s.endDueEvaluation := by
      rw [h]
      split
      · exact .head s.noticed_takeNotice (State.runSteps_evaluateSample _ p)
      · exact s.runSteps_evaluateSample p
    refine evaluated.tail (.ticked fun q hq _ => ?_)
    rw [h] at hq
    cases (State.evaluateSample_closed _ p).1.symm.trans hq
  · rw [h]
    refine .single (.ticked fun p hp hd => ?_)
    have := hnot p hp
    simp only [hd, true_and, Nat.not_le] at this
    exact this

theorem State.Event.runSteps {c : Instr} {s t : State} (h : s.Event c t) : s.RunSteps t := by
  cases h with
  | arrived word hacc => exact .single (.arrived word hacc)
  | evaluated p _ _ _ => exact s.runSteps_evaluateSample p
  | evaluationBegun p _ hp hn => exact .single (.begun p hp hn)
  | noticeTaken _ _ _ => exact .single s.noticed_takeNotice
  | expiryRaised w _ _ _ | windowEnded w _ _ _ _ => exact State.RunSteps.of_kept (.withEng s (by rfl) (by rfl) (by rfl))
  | loaded cur w cfg _ _ | armed cur w _ _ | freed cur w _ _ _ | disarmed cur w _ _ =>
    exact State.RunSteps.of_kept ((State.RunKept.withEng s (by rfl) (by rfl) (by rfl)).complete _)
  | startHeld c cur hdisp hidle =>
    exact .head (.held (State.dispatched_eq_some.1 hdisp).1 hidle) (State.runSteps_checkStart _)
  | startTaken hready => exact .single (.started hready)
  | stopped cur _ _ =>
    exact .head (.ended s.acq.pendingHalt (.inr rfl)) (State.RunSteps.of_kept ⟨rfl, rfl, rfl, rfl, rfl, rfl⟩)
  | granted q tag _ _ _ =>
    rw [s.issueGrant_frame]
    cases q with
    | slot i =>
      exact .head (.kept (s.setSlot i _) ⟨rfl, rfl, rfl, rfl, rfl, rfl⟩)
        (.trans (State.runSteps_checkStart _) (State.RunSteps.of_kept ⟨rfl, rfl, rfl, rfl, rfl, rfl⟩))
    | _ => exact State.RunSteps.of_kept ⟨rfl, rfl, rfl, rfl, rfl, rfl⟩
  | entryEnded c q tag size e x ans data u _ _ hdel =>
    exact State.runSteps_endPassage (.head (.kept (s.setEntry tag x) ⟨rfl, rfl, rfl, rfl, rfl, rfl⟩) hdel.runSteps)
  | chosen x _ _ => exact .trans (s.runSteps_itemChosen x) (State.RunSteps.of_kept ⟨rfl, rfl, rfl, rfl, rfl, rfl⟩)
  | rangeFault c code _ _ => exact State.runSteps_enterFaulted code ⟨rfl, rfl, rfl, rfl, rfl, rfl⟩
  | cqTailRaised v _ _ =>
    rw [State.checkCommandFetch_frame]
    exact State.RunSteps.of_kept ⟨rfl, rfl, rfl, rfl, rfl, rfl⟩
  | bqTailRaised v _ _ =>
    rw [State.checkBufferFetch_eq]
    exact State.RunSteps.of_kept ⟨rfl, rfl, rfl, rfl, rfl, rfl⟩
  | enabledWritten c v _ _ _ hd => exact .single (.deviceMoved _ _ (by simp [hd]) (by simp))
  | resetWritten c v _ _ _ => exact s.runSteps_leave (by decide)
  | disabledWritten c v _ _ _ _ => exact s.runSteps_leave (by decide)
  | pinMoved c level _ => exact .single (.cleared _ rfl rfl (.inr rfl) rfl rfl rfl fun _ => rfl)
  | ticked _ => exact s.runSteps_tick
  | _ => exact State.RunSteps.of_kept ⟨rfl, rfl, rfl, rfl, rfl, rfl⟩

/-! ### No START is left held -/

/-- While none is ready to be taken, and outside ENABLED none is held, no START is left. -/
theorem State.noStartLeft_of_not_ready {s : State} (hs : s.RunSound) (h : s.startReady = false) : s.NoStartLeft := by
  intro hheld
  obtain ⟨-, -, hleft, -⟩ := hs
  have hd : s.ctl.device = .enabled := by
    by_contra hd
    cases (hleft hd).2.1.symm.trans hheld
  by_contra hno
  simp only [not_or, not_not, not_exists] at hno
  rw [s.startReady_iff.2 ⟨hd, hheld, hno.1, hno.2.1, hno.2.2⟩] at h
  cases h

theorem State.NoStartLeft.not_ready {s : State} (h : s.NoStartLeft) : s.startReady = false := by
  by_contra hready
  obtain ⟨-, hheld, hnone, hslots, hhalt⟩ := s.startReady_iff.1 (eq_true_of_ne_false hready)
  obtain e | ⟨i, e⟩ | e := h hheld
  · exact e hnone
  · exact hslots i e
  · exact e hhalt

/-- A START is ready by the device state, the Acquisition Unit, the presented sample and which slots are FILLING. -/
theorem State.not_ready_of_same {s t : State} (h : s.startReady = false) (hd : t.ctl.device = s.ctl.device)
    (ha : t.acq = s.acq) (hp : t.eng.presented = s.eng.presented)
    (hf : ∀ i, (s.slot i).state = .filling → (t.slot i).state = .filling) : t.startReady = false := by
  by_contra hready
  obtain ⟨hd', hheld, hnone, hslots, hhalt⟩ := t.startReady_iff.1 (eq_true_of_ne_false hready)
  rw [s.startReady_iff.2 ⟨hd ▸ hd', ha ▸ hheld, hp ▸ hnone, fun i e => hslots i (hf i e), ha ▸ hhalt⟩] at h
  cases h

theorem State.not_ready_of_runKept {s t : State} (h : s.startReady = false) (hk : s.RunKept t) (hc : t.cap = s.cap) :
    t.startReady = false :=
  State.not_ready_of_same h hk.device hk.acq hk.presented fun i e => by rwa [State.slot, hc]

theorem State.not_ready_of_left {s : State} (hd : s.ctl.device ≠ .enabled) : s.startReady = false := by
  simp [State.startReady, hd]

theorem State.not_ready_of_not_held {s : State} (h : s.acq.heldStart = false) : s.startReady = false := by
  simp [State.startReady, h]

theorem State.not_ready_of_halt {s : State} (h : s.acq.pendingHalt ≠ none) : s.startReady = false := by
  by_contra hready
  obtain ⟨-, -, -, -, hhalt⟩ := s.startReady_iff.1 (eq_true_of_ne_false hready)
  exact h hhalt

theorem State.not_ready_closeSample (s : State) (halt : Option WatchId) (n : SampleNo) :
    (s.closeSample halt n).startReady = false := by
  unfold State.closeSample
  cases halt with
  | none => exact State.checkStart_notReady _
  | some w =>
    cases s.acq.state with
    | idle => exact State.checkStart_notReady _
    | running => exact State.not_ready_of_halt (nomatch ·)

theorem State.not_ready_evaluateSample (s : State) (p : PresentedSample) : (s.evaluateSample p).startReady = false :=
  State.not_ready_closeSample _ _ _

theorem State.endPassage_not_ready {s : State} (h : s.startReady = false) : s.endPassage.startReady = false := by
  obtain ⟨-, -, e⟩ | ⟨-, -, e⟩ | ⟨-, e⟩ := s.endPassage_cases
  · rw [e]; exact State.not_ready_of_left (nomatch ·)
  · rw [e]; exact State.not_ready_of_left (nomatch ·)
  · rwa [e]

theorem State.not_ready_enterFaulted (s : State) (code : FaultCode) : (s.enterFaulted code).startReady = false := by
  rw [s.enterFaulted_eq]
  exact State.not_ready_of_left (by simp)

theorem State.not_ready_leave (s : State) {d : DeviceState} (hd : d ≠ .enabled) : (s.leave d).startReady = false := by
  refine State.endPassage_not_ready (State.not_ready_of_left ?_)
  rw [s.stopBlocks_eq d hd]
  exact hd

theorem State.Delivered.not_ready {s t : State} {tag : Tag} {ans : Answer} {data : ReadData} {q : Requester}
    (h : s.Delivered tag ans data q t) (hs : s.RunSound) (hready : s.startReady = false) : t.startReady = false := by
  cases h with
  | setupFailed code _ _ => exact State.not_ready_enterFaulted _ _
  | setupTaken hd _ _ =>
    obtain ⟨-, -, hleft, -⟩ := hs
    exact State.not_ready_of_not_held (hleft (by simp [hd])).2.1
  | recordFailed _ _ _ => exact State.not_ready_enterFaulted _ _
  | batchTaken b _ _ _ =>
    rw [s.bqRead_ok_frame]
    exact State.not_ready_of_same hready rfl rfl rfl fun i e => e
  | batchFailed b _ _ _ => exact State.not_ready_enterFaulted _ _
  | eventWritten _ _ =>
    rw [s.eqWritten_ok_frame]
    exact State.not_ready_of_runKept hready ⟨rfl, rfl, rfl, rfl, rfl, rfl⟩ rfl
  | eventFailed _ _ => exact State.not_ready_enterFaulted _ _
  | burstAnswered i _ => exact State.checkStart_notReady _
  | burstAnsweredFaulted i hd => exact State.not_ready_of_left (by simp [hd])
  | burstAnsweredLeaving i hd =>
    exact State.not_ready_of_left (by obtain hd | hd := hd <;> simp [hd])
  | _ => exact State.not_ready_of_runKept hready ⟨rfl, rfl, rfl, rfl, rfl, rfl⟩ rfl

theorem State.not_ready_itemChosen {s : State} {x : EventContent} (hoffer : s.Offered x) (hready : s.startReady = false) :
    (s.itemChosen x).startReady = false := by
  cases hoffer with
  | captureDone d hd =>
    obtain ⟨hposting, -⟩ := Slot.captureDone_eq_some.1 (CaptureUnit.offer_eq_some hd)
    simp only [State.itemChosen]
    rw [State.captureDoneChosen_frame]
    refine State.not_ready_of_same hready rfl rfl rfl fun i e => ?_
    simp only [State.slot, tget_tset]
    rw [if_neg]
    · exact e
    · rintro rfl
      cases hposting.symm.trans e
  | acqHalt r _ _ => exact State.checkStart_notReady _
  | bufferReject r rest _ _ _ _ =>
    simp only [State.itemChosen]
    rw [State.checkBufferFetch_eq]
    exact State.not_ready_of_runKept hready ⟨rfl, rfl, rfl, rfl, rfl, rfl⟩ rfl
  | cmdDone d _ _ _ => exact State.not_ready_of_runKept hready ⟨rfl, rfl, rfl, rfl, rfl, rfl⟩ rfl
  | watchReport w rest _ _ _ _ _ _ =>
    exact State.not_ready_of_runKept hready (.withEng s (by rfl) (by rfl) (by rfl)) rfl

/-- The current command is of one kind, so a command dispatched that is no START leaves none held. -/
theorem State.CommandSound.not_held {s : State} (h : s.CommandSound) {k : CommandKind} {cur : CurrentCommand}
    (hk : k ≠ .start) (hdisp : s.dispatched k = some cur) : s.acq.heldStart = false := by
  obtain ⟨-, -, -, hheld, -⟩ := h
  obtain ⟨-, -, hcur, hkind⟩ := State.dispatched_eq_some.1 hdisp
  by_contra e
  have := (hheld (eq_true_of_ne_false e)).1
  rw [State.CurrentKind, hcur, Option.map_some, hkind, Option.some.injEq, Option.some.injEq] at this
  exact hk this

theorem State.Event.not_ready {c : Instr} {s t : State} (h : s.Event c t) (hs : s.RunSound) (hc : s.CommandSound)
    (hready : s.startReady = false) : t.startReady = false := by
  cases h with
  | arrived word _ =>
    by_contra e
    obtain ⟨-, -, hnone, -⟩ := (s.arrive word).startReady_iff.1 (eq_true_of_ne_false e)
    cases hnone
  | evaluated p _ _ _ => exact s.not_ready_evaluateSample p
  | noticeTaken _ _ _ =>
    obtain ⟨watches, heng⟩ : ∃ watches, s.eng.takeNotice = { s.eng with watches := watches, noticeWaiting := false } :=
      ⟨_, rfl⟩
    rw [heng]
    exact State.not_ready_of_same hready rfl rfl rfl fun i e => e
  | expiryRaised w _ _ _ | windowEnded w _ _ _ _ =>
    exact State.not_ready_of_runKept hready (.withEng s (by rfl) (by rfl) (by rfl)) rfl
  | loaded cur w cfg _ _ | armed cur w _ _ | freed cur w _ _ _ | disarmed cur w _ _ =>
    exact State.not_ready_of_runKept hready ((State.RunKept.withEng s (by rfl) (by rfl) (by rfl)).complete _) rfl
  | startHeld c cur _ _ => exact State.checkStart_notReady _
  | startTaken _ => exact State.not_ready_of_not_held rfl
  | stopped cur hdisp _ => exact State.not_ready_of_not_held (hc.not_held (by decide) hdisp)
  | cancelTaken cur named hdisp _ _ _ => exact State.not_ready_of_not_held (hc.not_held (by decide) hdisp)
  | granted q tag _ _ _ =>
    cases q with
    | slot i =>
      rw [State.issueGrant_slot]
      exact State.checkStart_notReady _
    | _ => exact State.not_ready_of_runKept hready ⟨rfl, rfl, rfl, rfl, rfl, rfl⟩ rfl
  | entryEnded c q tag size e x ans data u _ _ hdel =>
    exact State.endPassage_not_ready (hdel.not_ready hs hready)
  | chosen x _ hoffer => exact State.not_ready_itemChosen (State.offer_eq_some.1 hoffer) hready
  | rangeFault c code _ _ => exact s.not_ready_enterFaulted code
  | cqTailRaised v _ _ =>
    rw [State.checkCommandFetch_frame]
    exact State.not_ready_of_runKept hready ⟨rfl, rfl, rfl, rfl, rfl, rfl⟩ rfl
  | bqTailRaised v _ _ =>
    rw [State.checkBufferFetch_eq]
    exact State.not_ready_of_runKept hready ⟨rfl, rfl, rfl, rfl, rfl, rfl⟩ rfl
  | enabledWritten c v _ _ _ _ => exact State.not_ready_of_left (nomatch ·)
  | resetWritten c v _ _ _ => exact s.not_ready_leave (by decide)
  | disabledWritten c v _ _ _ _ => exact s.not_ready_leave (by decide)
  | pinMoved c level _ => exact State.not_ready_of_left (nomatch ·)
  | ticked _ =>
    obtain ⟨p, -, -, -, h⟩ | ⟨-, h⟩ := s.endDueEvaluation_cases
    · rw [h]
      exact State.not_ready_evaluateSample _ p
    · rw [h]
      exact State.not_ready_of_same hready rfl rfl rfl fun i e => e
  | evaluationBegun p _ _ _ => exact State.not_ready_of_same hready rfl rfl rfl fun i e => e
  | _ => exact State.not_ready_of_runKept hready ⟨rfl, rfl, rfl, rfl, rfl, rfl⟩ rfl

/-- Settles O23: an event is a sequence of steps that keep the ring in form and the run sound, and after it no START is ready
to be taken. -/
theorem acquisitionStaysSound : Obligations.AcquisitionStaysSound := by
  intro c s t hring h
  have hevent := State.event_of_exec h
  obtain ⟨hring', hrun⟩ := hevent.runSteps.sound hring
  exact ⟨hring', hrun, fun hs hc hno => State.noStartLeft_of_not_ready (hrun hs) (hevent.not_ready hs hc hno.not_ready)⟩

end Sys2Proof.Machine
end

/-! PROOFS. The watch commands at the Watch Engine (chapter 1): what LOAD, ARM, DISARM, FREE and SNAPSHOT do once they are
dispatched (O2 to O7). -/

section
namespace Sys2Proof.Machine

/-! ### Encodings of a LOAD record -/

theorem testOf_eq_some {b : Byte} {t : TestKind} :
    testOf b = some t ↔ (b = 0 ∧ t = .masked) ∨ (b = 1 ∧ t = .range) := by
  unfold testOf
  split_ifs with h0 h1
  · subst h0; simp [eq_comm]
  · subst h1; simp [eq_comm]
  · exact iff_of_false (nomatch ·) (by rintro (⟨e, -⟩ | ⟨e, -⟩); exacts [h0 e, h1 e])

theorem senseOf_eq_some {b : Byte} {se : Sense} :
    senseOf b = some se ↔ (b = 0 ∧ se = .level) ∨ (b = 1 ∧ se = .enter) ∨ (b = 2 ∧ se = .leave) := by
  unfold senseOf
  split_ifs with h0 h1 h2
  · subst h0; simp [eq_comm]
  · subst h1; simp [eq_comm]
  · subst h2; simp [eq_comm]
  · exact iff_of_false (nomatch ·) (by rintro (⟨e, -⟩ | ⟨e, -⟩ | ⟨e, -⟩); exacts [h0 e, h1 e, h2 e])

theorem modeOf_eq_some {b : Byte} {m : Mode} :
    modeOf b = some m ↔ (b = 0 ∧ m = .single) ∨ (b = 1 ∧ m = .repeated) := by
  unfold modeOf
  split_ifs with h0 h1
  · subst h0; simp [eq_comm]
  · subst h1; simp [eq_comm]
  · exact iff_of_false (nomatch ·) (by rintro (⟨e, -⟩ | ⟨e, -⟩); exacts [h0 e, h1 e])

theorem watchOf_eq_some {b : Byte} {w : WatchId} : watchOf b = some w ↔ b.toNat = w.val := by
  unfold watchOf
  split
  next h => simp [Fin.ext_iff]
  next h =>
    refine iff_of_false (nomatch ·) fun e => h ?_
    rw [e]
    exact w.isLt

theorem predecessorOf_eq_some {b : Byte} {p : Option WatchId} :
    predecessorOf b = some p ↔ (b = 0xFF ∧ p = none) ∨ (b ≠ 0xFF ∧ ∃ w : WatchId, b.toNat = w.val ∧ p = some w) := by
  unfold predecessorOf
  split
  next h => simp [h, eq_comm]
  next h =>
    rw [Option.map_eq_some_iff]
    constructor
    · rintro ⟨w, hw, rfl⟩
      exact .inr ⟨h, w, watchOf_eq_some.1 hw, rfl⟩
    · rintro (⟨e, -⟩ | ⟨-, w, hw, rfl⟩)
      · exact absurd e h
      · exact ⟨w, watchOf_eq_some.2 hw, rfl⟩

/-- Settles O2: an accepted record has legal encodings and values, and asks for `configWith` them. -/
theorem loadFields : Obligations.LoadFields := by
  intro r
  have hnone : r.predecessor = 0xFF → ¬ r.predecessor.toNat < 64 := by
    intro h
    rw [h]
    decide
  refine ⟨?_, fun c h => ?_⟩
  · rw [Option.ne_none_iff_exists']
    constructor
    · rintro ⟨c, h⟩
      obtain ⟨t, se, m, p, ht, hse, hm, hp, ⟨hrange, hskip, hrelatch, hpre⟩, -⟩ := CommandRecord.config_eq_some.1 h
      refine ⟨?_, ?_, ?_, fun e => ?_, hskip, ?_, fun e => ?_, hpre⟩
      · exact (testOf_eq_some.1 ht).imp And.left And.left
      · exact (senseOf_eq_some.1 hse).imp And.left (Or.imp And.left And.left)
      · exact (modeOf_eq_some.1 hm).imp And.left And.left
      · obtain ⟨e', -⟩ | ⟨-, e'⟩ := testOf_eq_some.1 ht
        · simp [e'] at e
        · obtain ⟨h1, h2, h3, h4, h5, h6⟩ := r.rangeFieldsLegal_iff.1 (hrange e')
          refine ⟨h1, fun e => ?_, h3, h4, h5, h6⟩
          simp [e] at h2
      · obtain ⟨e, -⟩ | ⟨-, w, e, -⟩ := predecessorOf_eq_some.1 hp
        · exact .inr e
        · exact .inl (e ▸ w.isLt)
      · obtain ⟨-, e'⟩ | ⟨e', -⟩ := predecessorOf_eq_some.1 hp
        · exact hrelatch ⟨e.1, e'⟩
        · exact e' e.2
    · rintro ⟨ht, hse, hm, hrange, hskip, hp, hrelatch, hpre⟩
      obtain ⟨t, ht'⟩ : ∃ t, testOf r.test = some t := by
        obtain e | e := ht
        · exact ⟨_, testOf_eq_some.2 (.inl ⟨e, rfl⟩)⟩
        · exact ⟨_, testOf_eq_some.2 (.inr ⟨e, rfl⟩)⟩
      obtain ⟨se, hse'⟩ : ∃ se, senseOf r.sense = some se := by
        obtain e | e | e := hse
        · exact ⟨_, senseOf_eq_some.2 (.inl ⟨e, rfl⟩)⟩
        · exact ⟨_, senseOf_eq_some.2 (.inr (.inl ⟨e, rfl⟩))⟩
        · exact ⟨_, senseOf_eq_some.2 (.inr (.inr ⟨e, rfl⟩))⟩
      obtain ⟨m, hm'⟩ : ∃ m, modeOf r.mode = some m := by
        obtain e | e := hm
        · exact ⟨_, modeOf_eq_some.2 (.inl ⟨e, rfl⟩)⟩
        · exact ⟨_, modeOf_eq_some.2 (.inr ⟨e, rfl⟩)⟩
      obtain ⟨p, hp'⟩ : ∃ p, predecessorOf r.predecessor = some p := by
        obtain e | e := hp
        · exact ⟨_, predecessorOf_eq_some.2 (.inr ⟨fun h => hnone h e, ⟨_, e⟩, rfl, rfl⟩)⟩
        · exact ⟨_, predecessorOf_eq_some.2 (.inl ⟨e, rfl⟩)⟩
      refine ⟨_, CommandRecord.config_eq_some.2
        ⟨t, se, m, p, ht', hse', hm', hp', ⟨fun e => ?_, hskip, fun e => ?_, hpre⟩, rfl⟩⟩
      · obtain ⟨-, e'⟩ | ⟨e', -⟩ := testOf_eq_some.1 ht'
        · cases e.symm.trans e'
        · obtain ⟨h1, h2, h3, h4, h5, h6⟩ := hrange e'
          refine r.rangeFieldsLegal_iff.2 ⟨h1, ?_, h3, h4, h5, h6⟩
          exact Nat.one_le_iff_ne_zero.2 fun z => h2 (BitVec.eq_of_toNat_eq z)
      · obtain ⟨e', -⟩ | ⟨-, w, -, e'⟩ := predecessorOf_eq_some.1 hp'
        · exact hrelatch ⟨e.1, e'⟩
        · cases e.2.symm.trans e'
  · obtain ⟨t, se, m, p, ht, hse, hm, hp, -, rfl⟩ := CommandRecord.config_eq_some.1 h
    have hmode : m = if r.mode = 0 then .single else .repeated := by
      obtain ⟨e, rfl⟩ | ⟨e, rfl⟩ := modeOf_eq_some.1 hm <;> simp [e]
    have hsense : se = if r.sense = 0 then .level else if r.sense = 1 then .enter else .leave := by
      obtain ⟨e, rfl⟩ | ⟨e, rfl⟩ | ⟨e, rfl⟩ := senseOf_eq_some.1 hse <;> simp [e]
    have hpred : p.map (fun p => p.val) = if r.predecessor = 0xFF then none else some r.predecessor.toNat := by
      obtain ⟨e, rfl⟩ | ⟨e, w, e', rfl⟩ := predecessorOf_eq_some.1 hp
      · rw [if_pos e]; rfl
      · rw [if_neg e, e']; rfl
    obtain ⟨e, rfl⟩ | ⟨e, rfl⟩ := testOf_eq_some.1 ht
    · simpa [CommandRecord.configWith, e, hpred, CommandRecord.relatch, CommandRecord.capture, CommandRecord.halt]
        using ⟨hsense, hmode⟩
    · simpa [CommandRecord.configWith, e, hpred, CommandRecord.relatch, CommandRecord.capture, CommandRecord.halt]
        using ⟨hsense, hmode⟩

/-! ### Dispatched commands -/

theorem State.Dispatched.dispatched {s : State} {k : CommandKind} {c : CurrentCommand} (h : s.Dispatched k c) :
    s.dispatched k = some c :=
  State.dispatched_eq_some.2 h

theorem State.Dispatched.dispatchedWatch {s : State} {k : CommandKind} {c : CurrentCommand} {w : WatchId}
    (h : s.Dispatched k c) (hb : s.eng.begun = false) (hw : watchOf c.record.watchId = some w) :
    s.dispatchedWatch k = some (c, w) :=
  State.dispatchedWatch_eq_some.2 ⟨hb, h.dispatched, hw⟩

/-- The completion of a current command, with the detail of its record (R141). -/
theorem CommandUnit.complete_eq_completedWith {u : CommandUnit} {c : CurrentCommand} (h : u.current = some c)
    (st : CmdStatus) : u.complete st = u.completedWith c st c.record.detail := by
  rw [CommandUnit.complete_of_current h]
  rfl

theorem CommandRecord.detail_of_namesWatch {r : CommandRecord} {k : CommandKind} (h : kindOf r.kind = some k)
    (hk : k.namesWatch = true) : r.detail = some r.watchId := by
  unfold CommandRecord.detail
  rw [h]
  cases k with
  | nop | start | stop | cancel => cases hk
  | _ => rfl

/-- A watch command completes with the watch id of its record as the detail (R141). -/
theorem State.Dispatched.complete {s : State} {k : CommandKind} {c : CurrentCommand} (h : s.Dispatched k c)
    (hk : k.namesWatch = true) (st : CmdStatus) :
    s.cmd.complete st = s.cmd.completedWith c st (some c.record.watchId) := by
  obtain ⟨-, -, hcur, hkind⟩ := h
  rw [CommandUnit.complete_eq_completedWith hcur, CommandRecord.detail_of_namesWatch hkind hk]

theorem State.setWatch_replaced (s : State) (w : WatchId) (x : Watch) (u : CommandUnit) :
    s.WatchReplaced ((s.setWatch w x).withCmd u) w x :=
  ⟨s.setWatch_watch_same w x, fun v hv => (s.setWatch_watch w v x).trans (if_neg hv)⟩

/-- The state after a watch command that replaced its watch's context and completed with OK. -/
theorem State.Dispatched.complete_setWatch {s : State} {k : CommandKind} {c : CurrentCommand} (h : s.Dispatched k c)
    (hk : k.namesWatch = true) (w : WatchId) (x : Watch) (st : CmdStatus) :
    (s.setWatch w x).complete st = (s.setWatch w x).withCmd (s.cmd.completedWith c st (some c.record.watchId)) := by
  rw [← h.complete hk st]
  rfl

theorem State.Dispatched.refused {s : State} {k : CommandKind} {c : CurrentCommand} (h : s.Dispatched k c)
    (hk : k.namesWatch = true) (st : CmdStatus) :
    s.complete st = { s with cmd := s.cmd.completedWith c st (some c.record.watchId) } := by
  rw [← h.complete hk st]
  rfl

/-! ### What each watch command does once it is dispatched -/

theorem exec_load_of_refused {s : State} {c : CurrentCommand} {w : WatchId} {st : CmdStatus}
    (h : s.dispatchedWatch .load = some (c, w)) (hj : s.eng.judgeLoad w c.record = (st, none)) :
    exec .load s = .next (s.complete st) := by
  simp only [exec, execLoad, h, hj]

theorem exec_load_of_accepted {s : State} {c : CurrentCommand} {w : WatchId} {st : CmdStatus} {cfg : WatchConfig}
    (h : s.dispatchedWatch .load = some (c, w)) (hj : s.eng.judgeLoad w c.record = (st, some cfg)) :
    exec .load s = .next ((s.setWatch w ((s.watch w).loaded cfg)).complete st) := by
  simp only [exec, execLoad, h, hj]

theorem exec_arm_of_dispatched {s : State} {c : CurrentCommand} {w : WatchId}
    (h : s.dispatchedWatch .arm = some (c, w)) :
    exec .arm s =
      .next
        (if (s.watch w).state = .idle then (s.setWatch w ((s.watch w).armed s.tick)).complete .ok
        else s.complete .wrongState) := by
  simp only [exec, execArm, h]

theorem exec_disarm_of_dispatched {s : State} {c : CurrentCommand} {w : WatchId}
    (h : s.dispatchedWatch .disarm = some (c, w)) :
    exec .disarm s =
      .next
        (if (s.watch w).state = .pending ∨ (s.watch w).state = .live then (s.watchDone w .disarmed).complete .ok
        else s.complete .wrongState) := by
  simp only [exec, execDisarm, h]

theorem exec_free_of_dispatched {s : State} {c : CurrentCommand} {w : WatchId}
    (h : s.dispatchedWatch .free = some (c, w)) :
    exec .free s =
      .next
        (if (s.watch w).state ≠ .idle then s.complete .wrongState
        else if hasSuccessor s.eng.watches w then s.complete .hasSuccessor
        else (s.setWatch w .freeContext).complete .ok) := by
  simp only [exec, execFree, h]

theorem exec_snapshot_of_dispatched {s : State} {c : CurrentCommand} {w : WatchId}
    (h : s.dispatchedWatch .snapshot = some (c, w)) (hnone : s.cmd.snapshot = none) :
    exec .snapshot s =
      .next
        (s.withCmd
          { s.cmd with
            snapshot := some ((s.watch w).snapshot w s.eng.lastEvaluated s.tick), link := .standing }) := by
  simp only [exec, execSnapshot, h, hnone, if_true]

/-! ### LOAD -/

theorem WatchEngine.judgeLoad_wrongState {e : WatchEngine} {w : WatchId} {r : CommandRecord}
    (hf : (tget e.watches w).state ≠ .free) (hi : (tget e.watches w).state ≠ .idle) :
    e.judgeLoad w r = (.wrongState, none) := by
  simp [WatchEngine.judgeLoad, hf, hi]

theorem WatchEngine.judgeLoad_badField {e : WatchEngine} {w : WatchId} {r : CommandRecord}
    (hs : (tget e.watches w).state = .free ∨ (tget e.watches w).state = .idle) (hr : r.config = none) :
    e.judgeLoad w r = (.badField, none) := by
  simp [WatchEngine.judgeLoad, hs, hr]

theorem WatchEngine.judgeLoad_of_refused {e : WatchEngine} {w : WatchId} {r : CommandRecord} {cfg : WatchConfig}
    {st : CmdStatus} (hs : (tget e.watches w).state = .free ∨ (tget e.watches w).state = .idle)
    (hr : r.config = some cfg) (hp : predecessorRefusal e.watches w cfg.predecessor = some st) :
    e.judgeLoad w r = (st, none) := by
  simp only [WatchEngine.judgeLoad, hs, hr, hp, if_true]

theorem WatchEngine.judgeLoad_of_accepted {e : WatchEngine} {w : WatchId} {r : CommandRecord} {cfg : WatchConfig}
    (hs : (tget e.watches w).state = .free ∨ (tget e.watches w).state = .idle)
    (hr : r.config = some cfg) (hp : predecessorRefusal e.watches w cfg.predecessor = none) :
    e.judgeLoad w r = (.ok, some cfg) := by
  simp only [WatchEngine.judgeLoad, hs, hr, hp, if_true]

theorem predecessorRefusal_noPredecessor {v : Vector Watch 64} {w p : WatchId}
    (h : p = w ∨ (tget v p).state = .free) : predecessorRefusal v w (some p) = some .noPredecessor :=
  if_pos h

theorem predecessorRefusal_chainLoop {v : Vector Watch 64} {w p : WatchId} (hne : p ≠ w)
    (hnf : (tget v p).state ≠ .free) (h : walkReaches v w 64 p = true) :
    predecessorRefusal v w (some p) = some .chainLoop :=
  (if_neg (by rintro (e | e); exacts [hne e, hnf e])).trans (if_pos h)

/-- Settles O3: the four checks are those of `judgeLoad`, and the walk of R13 reaches what the predecessors reach. -/
theorem loadChecked : Obligations.LoadChecked := by
  intro s c w hdis hb hw hsound hchains
  have hdisp := hdis.dispatchedWatch hb hw
  have hchains := s.chainsSound_iff.1 hchains
  have refused {st : CmdStatus} (hj : s.eng.judgeLoad w c.record = (st, none)) :
      exec .load s = .next { s with cmd := s.cmd.completedWith c st (some c.record.watchId) } := by
    rw [exec_load_of_refused hdisp hj, hdis.refused rfl st]
  refine ⟨fun hf hi => refused (WatchEngine.judgeLoad_wrongState hf hi), fun hstate =>
    ⟨fun hr => refused (WatchEngine.judgeLoad_badField hstate hr), fun cfg hr => ?_⟩⟩
  refine ⟨fun p hp hbad => refused ?_, fun p hp hne hnf hloop => refused ?_, fun hgood => ?_⟩
  · refine WatchEngine.judgeLoad_of_refused hstate hr ?_
    rw [hp]
    exact predecessorRefusal_noPredecessor hbad
  · refine WatchEngine.judgeLoad_of_refused hstate hr ?_
    rw [hp]
    exact predecessorRefusal_chainLoop hne hnf ((hchains.walkReaches_iff hnf).2 hloop)
  · have hok : predecessorRefusal s.eng.watches w cfg.predecessor = none := by
      cases hp : cfg.predecessor with
      | none => rfl
      | some p =>
        obtain ⟨hne, hnf, hloop⟩ := hgood p hp
        refine predecessorRefusal_eq_none.2 ⟨hne, hnf, ?_⟩
        exact eq_false_of_ne_true fun e => hloop ((hchains.walkReaches_iff hnf).1 e)
    refine ⟨(s.setWatch w ((s.watch w).loaded cfg)).withCmd (s.cmd.completedWith c .ok (some c.record.watchId)), ?_,
      s.setWatch_replaced w _ _, ?_, rfl⟩
    · rw [exec_load_of_accepted hdisp (WatchEngine.judgeLoad_of_accepted hstate hr hok), hdis.complete_setWatch rfl w _ .ok]
    · rw [State.withCmd_watch, State.setWatch_watch_same]
      exact (hsound w).noneUnreported (by obtain g | g := hstate <;> exact fun e => (by cases g.symm.trans e))
        (by obtain g | g := hstate <;> exact fun e => (by cases g.symm.trans e))

/-! ### ARM, DISARM, FREE, SNAPSHOT -/

/-- Settles O4: an IDLE watch takes the context `armed`, with or without a predecessor. -/
theorem armTaken : Obligations.ArmTaken := by
  intro s c w hdis hb hw
  have hexec := exec_arm_of_dispatched (hdis.dispatchedWatch hb hw)
  refine ⟨fun hi => ?_, fun hi => ?_⟩
  · rw [hexec, if_neg hi]
    exact congrArg _ (hdis.refused rfl .wrongState)
  · refine ⟨(s.setWatch w ((s.watch w).armed s.tick)).withCmd (s.cmd.completedWith c .ok (some c.record.watchId)), ?_,
      rfl, fun hp => ?_, fun hp => ?_⟩
    · rw [hexec, if_pos hi]
      exact congrArg _ (hdis.complete_setWatch rfl w _ .ok)
    · have hlive : (s.watch w).armed s.tick = (s.watch w).enterLive s.tick := by simp [Watch.armed, hp]
      rw [hlive]
      exact s.setWatch_replaced w _ _
    · obtain ⟨p, hp⟩ := Option.ne_none_iff_exists'.1 hp
      have hpending : (s.watch w).armed s.tick =
          { s.watch w with
            state := .pending, skipRemaining := (s.watch w).config.skip, previous := .unknown, expiryRaised := false,
            windowExpiry := none } := by simp [Watch.armed, hp]
      rw [hpending]
      exact s.setWatch_replaced w _ _

/-- Settles O5: a PENDING or LIVE watch enters DONE and joins the Report List. -/
theorem disarmTaken : Obligations.DisarmTaken := by
  intro s c w hdis hb hw
  have hexec := exec_disarm_of_dispatched (hdis.dispatchedWatch hb hw)
  refine ⟨fun hp hl => ?_, fun hs => ?_⟩
  · rw [hexec, if_neg (by rintro (e | e); exacts [hp e, hl e])]
    exact congrArg _ (hdis.refused rfl .wrongState)
  · refine ⟨(s.watchDone w .disarmed).withCmd (s.cmd.completedWith c .ok (some c.record.watchId)), ?_,
      ⟨tget_tset_same _ _ _, fun v hv => (tget_tset _ _ _ _).trans (if_neg hv)⟩, rfl⟩
    rw [hexec, if_pos hs, ← hdis.complete rfl .ok]
    rfl

/-- Settles O6: an IDLE watch that no other names takes the FREE context. -/
theorem freeTaken : Obligations.FreeTaken := by
  intro s c w hdis hb hw
  have hexec := exec_free_of_dispatched (hdis.dispatchedWatch hb hw)
  refine ⟨fun hi => ?_, fun hi hn => ?_, fun hi hn => ?_⟩
  · rw [hexec, if_pos hi]
    exact congrArg _ (hdis.refused rfl .wrongState)
  · rw [hexec, if_neg (not_not.2 hi), if_pos (hasSuccessor_iff.2 hn)]
    exact congrArg _ (hdis.refused rfl .hasSuccessor)
  · refine ⟨(s.setWatch w .freeContext).withCmd (s.cmd.completedWith c .ok (some c.record.watchId)), ?_,
      s.setWatch_replaced w _ _, rfl⟩
    rw [hexec, if_neg (not_not.2 hi), if_neg fun e => hn (hasSuccessor_iff.1 e)]
    exact congrArg _ (hdis.complete_setWatch rfl w _ .ok)

/-- Settles O7: the content is read off the watch, and the window remaining by whether its expiry is reached. -/
theorem snapshotTaken : Obligations.SnapshotTaken := by
  intro s c w hdis hb hw hnone
  refine ⟨_, exec_snapshot_of_dispatched (hdis.dispatchedWatch hb hw) hnone, rfl, rfl, rfl, rfl, rfl, fun he => ?_,
    fun e he => ?_, rfl, rfl, rfl, rfl, rfl, rfl, rfl, rfl, rfl, rfl, rfl, rfl, rfl, rfl⟩
  · simp [Watch.snapshot, Watch.windowRemaining, he]
  · simp [Watch.snapshot, Watch.windowRemaining, he, reached]

end Sys2Proof.Machine
end

/-! PROOFS. The evaluation of one watch, the window timers and the start-of-run notice (chapter 2: O13, O17, O18), and START
(chapter 3: O21). -/

section
namespace Sys2Proof.Machine

/-! ### One watch in phases 1 and 2 -/

/-- The occurrences of Table 2-1. -/
theorem occurrence_eq_true_iff (sense : Sense) (previous : PrevResult) (t : Bool) :
    occurrence sense previous t = true ↔
      match sense with
      | .level => t = true ∧ previous ≠ .unknown
      | .enter => t = true ∧ previous = .isFalse
      | .leave => t = false ∧ previous = .isTrue := by
  cases sense <;> cases previous <;> simp [occurrence]

theorem Watch.occurs_of_live {w : Watch} (h : w.state = .live) (x : Word) :
    w.occurs x = occurrence w.config.sense w.previous (w.config.testResult x) := by
  simp [Watch.occurs, h]

/-- A sample that is no occurrence leaves its result (R28). -/
theorem Watch.evaluate_of_live_not_occurs {w : Watch} {p : PresentedSample} (hl : w.state = .live)
    (h : w.occurs p.data = false) : w.evaluate p = { w with previous := .ofTest (w.config.testResult p.data) } := by
  simp [Watch.evaluate, Watch.fires, hl, h]

/-- A fire of a REPEAT watch (R32, R34). -/
theorem Watch.evaluate_of_fires_repeated {w : Watch} {p : PresentedSample} (h : w.fires p.data = true)
    (hm : w.config.mode = .repeated) :
    w.evaluate p =
      { ({ w with previous := .ofTest (w.config.testResult p.data) } : Watch).recordFire p with
        skipRemaining := w.config.skip } := by
  have hl := Watch.live_of_occurs ((w.fires_iff _).1 h).1
  simp [Watch.evaluate, hl, h, Watch.afterFire, Watch.recordFire, hm]

/-- A fire of a SINGLE watch (R32, R34). -/
theorem Watch.evaluate_of_fires_single {w : Watch} {p : PresentedSample} (h : w.fires p.data = true)
    (hm : w.config.mode = .single) :
    w.evaluate p =
      (({ w with previous := .ofTest (w.config.testResult p.data) } : Watch).recordFire p).enterDone .fired := by
  have hl := Watch.live_of_occurs ((w.fires_iff _).1 h).1
  simp [Watch.evaluate, hl, h, Watch.afterFire, Watch.recordFire, hm]

/-- Settles O13: a LIVE watch has an occurrence, skipped or fired in its mode, or none. -/
theorem watchEvaluation : Obligations.WatchEvaluation := by
  intro w p
  refine ⟨fun hl => ⟨Watch.evaluate_of_not_live hl p, Watch.occurs_of_not_live hl _, Watch.fires_of_not_live hl _⟩,
    fun hl => ?_⟩
  have hoccurs : w.occurs p.data = true ↔ _ :=
    (by rw [Watch.occurs_of_live hl] : w.occurs p.data = true ↔ _).trans (occurrence_eq_true_iff _ _ _)
  refine ⟨hoccurs, ?_, fun hno => ?_, fun ho hs => ?_, fun ho hs hm => ?_, fun ho hs hm => ?_⟩
  · exact (w.fires_iff _).trans (and_congr_left' hoccurs)
  · rw [Watch.evaluate_of_live_not_occurs hl (eq_false_of_ne_true fun e => hno (hoccurs.1 e))]
    rfl
  · rw [Watch.evaluate_of_skipped (hoccurs.2 ho) hs]
    rfl
  · rw [Watch.evaluate_of_fires_repeated ((w.fires_iff _).2 ⟨hoccurs.2 ho, hs⟩) hm]
    rfl
  · rw [Watch.evaluate_of_fires_single ((w.fires_iff _).2 ⟨hoccurs.2 ho, hs⟩) hm]
    rfl

/-! ### Window timers -/

/-- Settles O17: EXPIRY_RAISED and WINDOW_EXPIRY each act under their guard, and change their own watch. -/
theorem windowTimers : Obligations.WindowTimers := by
  refine ⟨fun s w => ⟨fun hd hl hdue => ?_, fun hno => ?_⟩, fun s w => ⟨fun hd hb hl hr => ?_, fun hno => ?_⟩⟩
  · refine ⟨s.setWatch w { s.watch w with expiryRaised := true }, ?_, ⟨s.setWatch_watch_same w _, fun v hv =>
      (s.setWatch_watch w v _).trans (if_neg hv)⟩, rfl⟩
    exact congrArg _ (if_pos ⟨hd, hl, Watch.expiryReached_iff.2 hdue⟩)
  · refine congrArg _ (if_neg fun ⟨hd, hl, hr⟩ => hno ⟨hd, hl, Watch.expiryReached_iff.1 hr⟩)
  · refine ⟨s.watchDone w (s.watch w).config.mode.expiryReason, ?_, ⟨?_, fun v hv =>
      (tget_tset _ _ _ _).trans (if_neg hv)⟩, rfl⟩
    · exact congrArg _ (if_pos ⟨hd, hb, hl, hr⟩)
    · refine (tget_tset_same _ _ _).trans ?_
      cases hm : (s.watch w).config.mode <;> rfl
  · exact congrArg _ (if_neg fun ⟨hd, _, hl, hr⟩ => hno ⟨hd, hl, hr⟩)

/-! ### The start-of-run notice -/

/-- Settles O18: the notice acts under its guard, and no sample is evaluated while it waits. -/
theorem startOfRunTaken : Obligations.StartOfRunTaken := by
  refine ⟨fun s hd hn hb => ⟨⟨s.withEng s.eng.takeNotice, ?_, fun w => ?_, rfl⟩, fun x => ?_⟩, fun s hno => ?_⟩
  · exact congrArg _ (if_pos ⟨hd, hn, hb⟩)
  · exact s.eng.takeNotice_watch w
  · have hno : ¬ (s.ctl.device = .enabled ∧ s.eng.noticeWaiting = false) := by simp [hn]
    simp only [exec, execSampleEvaluation, if_neg hno]
    cases s.eng.presented <;> rfl
  · exact congrArg _ (if_neg hno)

/-! ### START -/

theorem CommandRecord.detail_of_start {r : CommandRecord} (h : kindOf r.kind = some .start) : r.detail = none := by
  simp [CommandRecord.detail, h]

theorem CommandRecord.detail_of_stop {r : CommandRecord} (h : kindOf r.kind = some .stop) : r.detail = none := by
  simp [CommandRecord.detail, h]

theorem CommandRecord.detail_of_cancel {r : CommandRecord} (h : kindOf r.kind = some .cancel) :
    r.detail = some r.slot := by
  simp [CommandRecord.detail, h]

theorem State.Dispatched.complete_start {s : State} {c : CurrentCommand} (h : s.Dispatched .start c) (st : CmdStatus) :
    s.cmd.complete st = s.cmd.completedWith c st none := by
  obtain ⟨-, -, hcur, hkind⟩ := h
  rw [CommandUnit.complete_eq_completedWith hcur, CommandRecord.detail_of_start hkind]

theorem State.Dispatched.complete_stop {s : State} {c : CurrentCommand} (h : s.Dispatched .stop c) (st : CmdStatus) :
    s.cmd.complete st = s.cmd.completedWith c st none := by
  obtain ⟨-, -, hcur, hkind⟩ := h
  rw [CommandUnit.complete_eq_completedWith hcur, CommandRecord.detail_of_stop hkind]

theorem State.Dispatched.complete_cancel {s : State} {c : CurrentCommand} (h : s.Dispatched .cancel c)
    (st : CmdStatus) : s.cmd.complete st = s.cmd.completedWith c st (some c.record.slot) := by
  obtain ⟨-, -, hcur, hkind⟩ := h
  rw [CommandUnit.complete_eq_completedWith hcur, CommandRecord.detail_of_cancel hkind]

theorem State.checkStart_of_ready {s : State} (h : s.startReady = true) : s.checkStart = s.takeStart := by
  simp [State.checkStart, h]

theorem State.checkStart_of_not_ready {s : State} (h : s.startReady = false) : s.checkStart = s := by
  simp [State.checkStart, h]

/-- A part whose ring is empty holds no sample (R57, R58). -/
theorem Acquisition.holds_of_empty {a : Acquisition} (h : a.heldCount = 0) (k : SampleNo) : a.holds k = false := by
  simp [Acquisition.holds, h]

/-- The conditions of START_TAKEN: a START held, or one that arrives while IDLE (R60, R61). -/
theorem State.holdStart_ready_iff (s : State) :
    s.holdStart.startReady = true ↔
      s.ctl.device = .enabled ∧ (s.acq.heldStart = true ∨ (s.acq.state = .idle ∧ ∃ c, s.Dispatched .start c)) ∧
        s.eng.presented = none ∧ (∀ i, (s.slot i).state ≠ .filling) ∧ s.acq.pendingHalt = none := by
  obtain ⟨⟨c, hc⟩, hidle, e⟩ | ⟨hno, e⟩ := s.holdStart_cases
  · have hdis : ∃ c, s.Dispatched .start c := ⟨c, State.dispatched_eq_some.1 hc⟩
    rw [e, State.startReady_iff]
    simp [hidle, hdis]
  · have hno : ¬ (s.acq.state = .idle ∧ ∃ c, s.Dispatched .start c) := fun ⟨hidle, c, hc⟩ => hno c hc.dispatched hidle
    rw [e, State.startReady_iff]
    simp only [hno, or_false]

/-- Settles O21: a START is held while IDLE and taken by its check, and START_TAKEN is that take. -/
theorem startTaken : Obligations.StartTaken := by
  refine ⟨fun s c hdis => ⟨fun hrun => ?_, fun hidle => ?_⟩, fun s => ⟨fun hno => ?_, fun hready => ?_⟩,
    fun s => ⟨fun hready => ?_, fun hno => ?_⟩⟩
  · simp only [exec, execStart, hdis.dispatched, hrun]
    rw [State.complete, hdis.complete_start]
    rfl
  · have hexec : exec .start s = .next s.holdStart.checkStart := by
      simp only [exec, execStart, hdis.dispatched, hidle]
    obtain ⟨-, -, e⟩ | ⟨hno, -⟩ := s.holdStart_cases
    · rw [hexec, e]; rfl
    · exact absurd hidle (hno c hdis.dispatched)
  · exact State.checkStart_of_not_ready (eq_false_of_ne_true fun e => hno (s.startReady_iff.1 e))
  · have hready := s.startReady_iff.2 hready
    dsimp only
    rw [State.checkStart_of_ready hready]
    refine ⟨rfl, fun c hdis => hdis.complete_start .ok, rfl, ?_, Acquisition.holds_of_empty rfl⟩
    exact BitVec.sub_zero _
  · have hready := s.holdStart_ready_iff.2 hready
    simp only [exec, execStartTaken, hready, if_true]
    rw [← State.checkStart_of_ready hready]
    obtain ⟨-, -, e⟩ | ⟨-, e⟩ := s.holdStart_cases
    · rw [e]; rfl
    · have hheld : s.acq.heldStart = true := by
        rw [e, State.startReady_iff] at hready
        exact hready.2.1
      have hsame : ({ s.acq with heldStart := true } : Acquisition) = s.acq := by rw [← hheld]
      rw [e, hsame]
  · have hno : s.holdStart.startReady = false := eq_false_of_ne_true fun e => hno (s.holdStart_ready_iff.1 e)
    simp only [exec, execStartTaken, hno]
    rfl

end Sys2Proof.Machine
end

/-! PROOFS. Windows and arrivals: an allocated slot (O24), a sample arrival and its bound (O20), the overrun (O25), STOP
(O22) and CANCEL (O28). -/

section
namespace Sys2Proof.Machine

/-! ### Windows -/

/-- The window start: `pre` samples back, or the floor (R72). -/
def windowStartOf (floor k : SampleNo) (pre : Nat) : SampleNo :=
  if pre ≤ (k - floor).toNat then k - BitVec.ofNat 48 pre else floor

/-- The window end before a run-end mark: `post` samples on, or where the buffer is full (R73). -/
def windowStopOf (start k : SampleNo) (post capacity : Nat) : SampleNo :=
  if capacity < (k + BitVec.ofNat 48 post - start).toNat + 1 then start + BitVec.ofNat 48 capacity - 1
  else k + BitVec.ofNat 48 post

theorem windowStartOf_distance (floor k : SampleNo) (pre : Nat) (h : pre ≤ 1024) :
    (k - windowStartOf floor k pre).toNat ≤ pre := by
  unfold windowStartOf
  split
  · have e : k - (k - BitVec.ofNat 48 pre) = BitVec.ofNat 48 pre := by ring
    rw [e, BitVec.toNat_ofNat]
    omega
  · omega

theorem askedEnd_distance {start k : SampleNo} {pre post : Nat} (h : (k - start).toNat ≤ pre) (hpre : pre ≤ 1024)
    (hpost : post ≤ 65535) : (k + BitVec.ofNat 48 post - start).toNat = (k - start).toNat + post := by
  have e : k + BitVec.ofNat 48 post - start = (k - start) + BitVec.ofNat 48 post := by ring
  rw [e, BitVec.toNat_add, BitVec.toNat_ofNat]
  omega

theorem windowStopOf_distance {start k : SampleNo} {post capacity : Nat} (h : 1 ≤ capacity)
    (h' : capacity ≤ Config.maxCapacity) :
    (windowStopOf start k post capacity - start).toNat + 1 =
      min ((k + BitVec.ofNat 48 post - start).toNat + 1) capacity := by
  unfold windowStopOf
  split
  next hlong =>
    have e : start + BitVec.ofNat 48 capacity - 1 - start = BitVec.ofNat 48 capacity - 1 := by ring
    rw [e, BitVec.toNat_sub, BitVec.toNat_ofNat]
    simp only [Config.maxCapacity] at h'
    have : (1 : SampleNo).toNat = 1 := rfl
    omega
  next => omega

/-- A slot allocated where no run-end mark cuts its window (R70, R72, R73). -/
def Slot.uncut (a : Acquisition) (w : WatchId) (k : SampleNo) (pre post : Nat) (d : Descriptor) : Slot where
  state := .filling
  watch := w
  buffer := d.address
  capacity := d.capacity
  bufferTag := d.tag
  trigger := k
  windowStart := windowStartOf a.floor k pre
  windowEnd := windowStopOf (windowStartOf a.floor k pre) k post d.capacity
  clipped := decide (d.capacity < (k + BitVec.ofNat 48 post - windowStartOf a.floor k pre).toNat + 1)
  flushing := false
  nextToCopy := windowStartOf a.floor k pre
  requestStanding := false
  leading := 0
  bursts := []
  outstanding := 0
  status := none

/-- A slot allocated: its window is cut at a run-end mark below its end, and only there (R75). -/
theorem Slot.allocated_eq (a : Acquisition) (mark : Option SampleNo) (w : WatchId) (k : SampleNo) (pre post : Nat)
    (d : Descriptor) :
    Slot.allocated a mark w k pre post d =
      match mark with
      | none => Slot.uncut a w k pre post d
      | some m =>
        if (Slot.uncut a w k pre post d).pos m <
            (Slot.uncut a w k pre post d).pos (Slot.uncut a w k pre post d).windowEnd then
          { Slot.uncut a w k pre post d with windowEnd := m, status := some .truncated, flushing := true }
        else Slot.uncut a w k pre post d := by
  unfold Slot.allocated
  simp only [decide_eq_true_eq]
  rfl

/-- The three outcomes of an allocation (R75). -/
theorem Slot.allocated_cases (a : Acquisition) (mark : Option SampleNo) (w : WatchId) (k : SampleNo) (pre post : Nat)
    (d : Descriptor) :
    let base := Slot.uncut a w k pre post d
    (mark = none ∧ Slot.allocated a mark w k pre post d = base) ∨
    (∃ m, mark = some m ∧ base.pos m < base.pos base.windowEnd ∧ Slot.allocated a mark w k pre post d =
      { base with windowEnd := m, status := some .truncated, flushing := true }) ∨
    (∃ m, mark = some m ∧ base.pos base.windowEnd ≤ base.pos m ∧ Slot.allocated a mark w k pre post d = base) := by
  intro base
  rw [Slot.allocated_eq]
  cases mark with
  | none => exact .inl ⟨rfl, rfl⟩
  | some m =>
    by_cases h : base.pos m < base.pos base.windowEnd
    · exact .inr (.inl ⟨m, rfl, h, if_pos h⟩)
    · exact .inr (.inr ⟨m, rfl, Nat.le_of_not_lt h, if_neg h⟩)

/-- Settles O24: the fields of an allocated slot, and the distances of its start, its asked end and its end. -/
theorem captureWindow : Obligations.CaptureWindow := by
  intro a mark w k pre post d hpre hpost hd
  obtain ⟨hcap, hmax, -⟩ := hd
  have hback := windowStartOf_distance a.floor k pre hpre
  have hasked := askedEnd_distance hback hpre hpost
  have hstop := windowStopOf_distance (start := windowStartOf a.floor k pre) (k := k) (post := post) hcap hmax
  have hlength : (k + BitVec.ofNat 48 post - windowStartOf a.floor k pre).toNat + 1 ≤ 66560 := by omega
  obtain ⟨rfl, e⟩ | ⟨m, rfl, hm, e⟩ | ⟨m, rfl, hm, e⟩ := Slot.allocated_cases a mark w k pre post d
  · dsimp only
    rw [e]
    exact ⟨⟨rfl, rfl, rfl, rfl, rfl, rfl, rfl, rfl, rfl⟩, rfl, rfl, rfl, hlength, decide_eq_true_iff,
      fun _ => ⟨rfl, rfl, rfl, hstop⟩, fun _ e _ => (by cases e), fun _ e _ => (by cases e),
      by simp only [Slot.pos, Slot.uncut]; omega,
      by simp only [Slot.pos, Slot.uncut]; omega⟩
  · have hm' : (m - windowStartOf a.floor k pre).toNat <
        (windowStopOf (windowStartOf a.floor k pre) k post d.capacity - windowStartOf a.floor k pre).toNat := hm
    dsimp only
    rw [e]
    exact ⟨⟨rfl, rfl, rfl, rfl, rfl, rfl, rfl, rfl, rfl⟩, rfl, rfl, rfl, hlength, decide_eq_true_iff,
      (nomatch ·), fun _ e _ => ⟨Option.some.inj e, rfl, rfl⟩,
      fun _ e h => absurd hm (Nat.not_lt.2 (by cases e; exact h)), by simp only [Slot.pos, Slot.uncut]; omega,
      by simp only [Slot.pos, Slot.uncut]; omega⟩
  · dsimp only
    rw [e]
    exact ⟨⟨rfl, rfl, rfl, rfl, rfl, rfl, rfl, rfl, rfl⟩, rfl, rfl, rfl, hlength, decide_eq_true_iff,
      (nomatch ·), fun _ e h => absurd h (Nat.not_lt.2 (by cases e; exact hm)), fun _ _ _ => ⟨rfl, rfl, rfl⟩,
      by simp only [Slot.pos, Slot.uncut]; omega, by simp only [Slot.pos, Slot.uncut]; omega⟩

/-! ### Sample arrivals -/

theorem exec_sampleArrival_of_accepts {s : State} (h : s.acceptsEdge = true) (word : Word) :
    exec (.sampleArrival word) s = .next (s.arrive word) :=
  congrArg _ (if_pos h)

theorem exec_sampleArrival_of_not_accepts {s : State} (h : ¬ s.acceptsEdge = true) (word : Word) :
    exec (.sampleArrival word) s = .next s :=
  congrArg _ (if_neg h)

/-- The floor after an arrival (R57). -/
theorem Acquisition.accept_floor (a : Acquisition) (word : Word) (tick : Tick) :
    (a.accept word tick).floor = if a.heldCount = Config.ringDepth then a.floor + 1 else a.floor := by
  unfold Acquisition.accept Acquisition.floor
  dsimp only
  split
  · ring
  · have e : BitVec.ofNat 48 (a.heldCount + 1) = BitVec.ofNat 48 a.heldCount + 1 := BitVec.ofNat_add _ _
    rw [e]
    ring

theorem Acquisition.holds_iff {a : Acquisition} {k : SampleNo} : a.holds k = true ↔ (k - a.floor).toNat < a.heldCount :=
  decide_eq_true_iff

/-- How far below the sample counter a sample lies whose entry is present (R58). -/
theorem Acquisition.holds_iff_back {a : Acquisition} (h : a.heldCount ≤ Config.ringDepth) {k : SampleNo} :
    a.holds k = true ↔ 1 ≤ (a.sampleCounter - k).toNat ∧ (a.sampleCounter - k).toNat ≤ a.heldCount := by
  have e : k - a.floor = BitVec.ofNat 48 a.heldCount - (a.sampleCounter - k) := by
    unfold Acquisition.floor
    ring
  rw [Acquisition.holds_iff, e]
  generalize a.sampleCounter - k = x
  simp only [Config.ringDepth] at h
  rw [BitVec.toNat_sub, BitVec.toNat_ofNat]
  have := x.isLt
  omega

/-- After an arrival the samples present are the new one and those present before and not overwritten, each with its entry
(R55, R57, R58). -/
theorem Acquisition.accept_holds {a : Acquisition} (hwf : ringWf a.ring = true) (hlow : a.heldCount ≤ Config.ringDepth)
    (word : Word) (tick : Tick) {k : SampleNo} (hk : (a.accept word tick).holds k = true)
    (hne : k ≠ a.sampleCounter) :
    a.holds k = true ∧ (a.accept word tick).entryOf k = a.entryOf k := by
  have hcount : (a.accept word tick).heldCount ≤ Config.ringDepth := by
    simp only [Acquisition.accept]
    split <;> omega
  have hle : (a.accept word tick).heldCount ≤ a.heldCount + 1 := by
    simp only [Acquisition.accept]
    split <;> omega
  have hback := (Acquisition.holds_iff_back hcount).1 hk
  have e : (a.accept word tick).sampleCounter - k = (a.sampleCounter - k) + 1 := by
    simp only [Acquisition.accept]
    ring
  rw [e] at hback
  have hpos : (a.sampleCounter - k).toNat ≠ 0 := fun z => hne (by
    have : a.sampleCounter - k = 0 := BitVec.eq_of_toNat_eq z
    exact (sub_eq_zero.1 this).symm)
  have hsucc : (a.sampleCounter - k + 1).toNat = ((a.sampleCounter - k).toNat + 1) % 2 ^ 48 := BitVec.toNat_add _ _
  simp only [Config.ringDepth] at hcount hlow
  have hlt := (a.sampleCounter - k).isLt
  refine ⟨(Acquisition.holds_iff_back (by exact hlow)).2 ⟨by omega, by omega⟩, ?_⟩
  rw [Acquisition.accept_entryOf hwf, if_neg]
  intro hpos'
  refine hne (ringPosition_injective ?_ hpos'.symm).symm
  simp only [Config.ringDepth]
  omega

/-- The sample that has just arrived is present (R58). -/
theorem Acquisition.accept_holds_own {a : Acquisition} (hlow : a.heldCount ≤ Config.ringDepth) (word : Word)
    (tick : Tick) : (a.accept word tick).holds a.sampleCounter = true := by
  have hcount : 1 ≤ (a.accept word tick).heldCount ∧ (a.accept word tick).heldCount ≤ Config.ringDepth := by
    simp only [Acquisition.accept, Config.ringDepth] at hlow ⊢
    split <;> omega
  have e : (a.accept word tick).sampleCounter - a.sampleCounter = 1 := by
    simp only [Acquisition.accept]
    ring
  rw [Acquisition.holds_iff_back hcount.2, e]
  exact ⟨le_rfl, hcount.1⟩

/-- The low half of a tick difference below 2^32 (R58). -/
theorem tickLow_distance {x y : Tick} (h : (x - y).toNat < 8) :
    (x.setWidth 32 - y.setWidth 32).toNat < 8 := by
  simp only [BitVec.toNat_sub, BitVec.toNat_setWidth] at *
  omega

theorem WatchEngine.takeNotice_presented (e : WatchEngine) : e.takeNotice.presented = e.presented := by
  unfold WatchEngine.takeNotice
  rfl

theorem WatchEngine.takeNotice_noticeWaiting (e : WatchEngine) : e.takeNotice.noticeWaiting = false := by
  unfold WatchEngine.takeNotice
  rfl

theorem exec_startOfRunNotice_taken {s : State} (hd : s.ctl.device = .enabled) (hn : s.eng.noticeWaiting = true)
    (hb : s.eng.begun = false) : exec .startOfRunNotice s = .next (s.withEng s.eng.takeNotice) :=
  congrArg _ (if_pos ⟨hd, hn, hb⟩)

theorem exec_sampleEvaluation_whole {s : State} {p : PresentedSample} (hd : s.ctl.device = .enabled)
    (hp : s.eng.presented = some p) (hn : s.eng.noticeWaiting = false) :
    exec (.sampleEvaluation .whole) s = .next (s.evaluateSample p) := by
  simp only [exec, execSampleEvaluation, hp, hd, hn, and_self, if_true]

/-- A period at which a presented sample is not due only counts (R187). -/
theorem exec_refclkTick_not_due {s : State} {p : PresentedSample} (hpin : s.resetAsserted = false)
    (hp : s.eng.presented = some p) (h : (s.tick + 1 - p.arrivalTick).toNat < 8) :
    exec .refclkTick s = .next (s.withTick (s.tick + 1)) := by
  rw [exec_refclkTick_running hpin]
  obtain ⟨q, hq, -, hdue, -⟩ | ⟨-, e⟩ := s.endDueEvaluation_cases
  · cases hp.symm.trans hq
    exact absurd h (Nat.not_lt.2 hdue)
  · rw [e]

/-- A period at which a presented sample is due evaluates it, behind a notice that waits (R187). -/
theorem exec_refclkTick_due {s : State} {p : PresentedSample} (hpin : s.resetAsserted = false)
    (hd : s.ctl.device = .enabled) (hp : s.eng.presented = some p) (h : 8 ≤ (s.tick + 1 - p.arrivalTick).toNat) :
    exec .refclkTick s =
      .next
        (((if s.eng.noticeWaiting = true then s.withEng s.eng.takeNotice else s).evaluateSample p).withTick
          (s.tick + 1)) := by
  rw [exec_refclkTick_running hpin]
  obtain ⟨q, hq, -, -, e⟩ | ⟨hno, -⟩ := s.endDueEvaluation_cases
  · cases hp.symm.trans hq
    rw [e]
  · exact absurd ⟨hd, h⟩ (hno p hp)

/-- Settles O20: an accepted edge is an arrival, the ring reads as written, and a period ends a due evaluation. -/
theorem sampleArrivalTaken : Obligations.SampleArrivalTaken := by
  refine ⟨fun s word => ⟨fun hno => ?_, fun hd hrun hnone => ?_⟩, fun s t word hring hd hrun hnone h => ?_,
    fun s p hpin hd hp hbegun => ⟨fun hlt => exec_refclkTick_not_due hpin hp hlt, fun hdue => ?_⟩,
    fun s word hs hd hrun hold => ?_⟩
  · exact exec_sampleArrival_of_not_accepts (fun e => hno (State.acceptsEdge_iff.1 e)) word
  · refine ⟨s.arrive word, exec_sampleArrival_of_accepts (State.acceptsEdge_iff.2 ⟨hd, hrun, hnone⟩) word, ?_,
      Acquisition.accept_newest _ _ _, fun hlt => ?_, fun hfull => ?_⟩
    · have hcount : (s.acq.accept word s.tick).heldCount =
          if s.acq.heldCount = 2048 then 2048 else s.acq.heldCount + 1 := by
        simp only [Acquisition.accept, Config.ringDepth]
        split <;> simp [*]
      rw [← hcount]
      rfl
    · exact (Acquisition.accept_floor _ _ _).trans (if_neg (by simp only [Config.ringDepth]; omega))
    · exact (Acquisition.accept_floor _ _ _).trans (if_pos hfull)
  · rw [exec_sampleArrival_of_accepts (State.acceptsEdge_iff.2 ⟨hd, hrun, hnone⟩)] at h
    cases h
    exact ⟨Acquisition.accept_holds_own hring.2 _ _, (Acquisition.accept_entryOf hring.1 _ _ _).trans (if_pos rfl),
      fun k hk hne => Acquisition.accept_holds hring.1 hring.2 _ _ hk hne⟩
  · refine ⟨if s.eng.noticeWaiting = true then s.withEng s.eng.takeNotice else s, _, ?_, ?_,
      (State.evaluateSample_closed _ p).1, exec_refclkTick_due hpin hd hp hdue⟩
    · cases hn : s.eng.noticeWaiting with
      | true =>
        have hb : s.eng.begun = false := by
          by_contra hb
          cases hn.symm.trans (hbegun (eq_true_of_ne_false hb))
        exact exec_startOfRunNotice_taken hd hn hb
      | false => rfl
    · cases hn : s.eng.noticeWaiting with
      | true =>
        have hp' : s.eng.takeNotice.presented = some p := hp ▸ s.eng.takeNotice_presented
        exact exec_sampleEvaluation_whole (s := s.withEng s.eng.takeNotice) hd hp' s.eng.takeNotice_noticeWaiting
      | false => exact exec_sampleEvaluation_whole hd hp hn
  · have hnone : s.eng.presented = none := by
      by_contra hp
      obtain ⟨p, hp⟩ := Option.ne_none_iff_exists'.1 hp
      obtain ⟨-, -, -, hpresented, -⟩ := hs
      obtain ⟨hrecent, hnewest, hentry⟩ := hpresented p hp
      have := hold _ hnewest
      rw [hentry] at this
      exact absurd (tickLow_distance hrecent) (Nat.not_lt.2 this)
    exact ⟨s.arrive word, exec_sampleArrival_of_accepts (State.acceptsEdge_iff.2 ⟨hd, hrun, hnone⟩) word, rfl, rfl⟩

/-- Settles O25: an arrival notice closes a slot that needed the entry overwritten, and checks every other. -/
theorem overrunByArrival : Obligations.OverrunByArrival := by
  intro s t word i hd hrun hnone h
  rw [exec_sampleArrival_of_accepts (State.acceptsEdge_iff.2 ⟨hd, hrun, hnone⟩)] at h
  cases h
  have hslot : (s.arrive word).slot i = (s.slot i).onArrival (s.acq.accept word s.tick) s.acq.overwritten :=
    tget_tmap _ _ _
  rw [hslot, ← Acquisition.accept_newest s.acq word s.tick]
  refine ⟨fun ⟨hfill, hflush, hfull, hbelow, habove⟩ => ?_, fun hno => ?_⟩
  · have hover : s.acq.overwritten = some (s.acq.sampleCounter - 2048) := if_pos hfull
    have hneeds : (s.slot i).needs (s.acq.sampleCounter - 2048) = true := by
      simp only [Slot.needs, hbelow, habove, decide_true, Bool.and_self]
    rw [hover, Slot.onArrival, if_pos hfill, ← Slot.close_eq]
    exact if_pos ⟨hflush, hneeds⟩
  · refine Slot.onArrival_checked fun x hx ⟨hfill, hflush, hneeds⟩ => hno ?_
    unfold Acquisition.overwritten at hx
    split at hx
    next hfull =>
      cases hx
      simp only [Slot.needs, Bool.and_eq_true, decide_eq_true_eq] at hneeds
      exact ⟨hfill, hflush, hfull, hneeds⟩
    next => cases hx

/-! ### STOP -/

/-- Settles O22: a STOP that finds a run ends it, with the end-of-run notice to every slot. -/
theorem stopTaken : Obligations.StopTaken := by
  intro s c hdis
  refine ⟨fun hidle => ?_, fun hrun => ?_⟩
  · simp only [exec, execStop, hdis.dispatched, hidle]
    rw [State.complete, hdis.complete_stop]
    rfl
  · have hnewest : ({ s.acq with state := .idle } : Acquisition).newest = s.acq.newest := rfl
    refine ⟨((s.withAcq { s.acq with state := .idle }).withCap
      (s.cap.onEndOfRun { s.acq with state := .idle } s.acq.newest)).withCmd (s.cmd.completedWith c .ok none), ?_, ?_,
      fun hn => ?_, fun n i hn => ?_⟩
    · simp only [exec, execStop, hdis.dispatched, hrun, hnewest]
      rw [← hdis.complete_stop]
      rfl
    · cases hn : s.acq.newest with
      | none =>
        have hz : s.acq.heldCount = 0 := by
          by_contra hz
          simp [Acquisition.newest, hz] at hn
        rw [if_pos hz]
        rfl
      | some n =>
        have hz : s.acq.heldCount ≠ 0 := by
          intro hz
          simp [Acquisition.newest, hz] at hn
        rw [if_neg hz]
        rfl
    · rw [hn]; rfl
    · have hslot : tget (s.cap.onEndOfRun { s.acq with state := .idle } s.acq.newest).slots i =
          (s.slot i).onEndOfRun { s.acq with state := .idle } n := by
        rw [hn]; exact tget_tmap _ _ _
      have hcut := Slot.onEndOfRun_cutAt { s.acq with state := .idle } n (s.slot i)
      rw [hnewest, hn] at hcut
      rw [State.withCmd_slot, State.withCap_slot, hslot]
      exact hcut

/-! ### CANCEL -/

theorem CaptureUnit.mem_targets {c : CaptureUnit} {named : List SlotId} {i : SlotId} :
    i ∈ c.targets named ↔ i ∈ named ∧ (tget c.slots i).state ≠ .free := by
  simp [CaptureUnit.targets]

theorem CaptureUnit.cancelStatus_eq (c : CaptureUnit) (named : List SlotId) :
    c.cancelStatus (c.targets named) =
      if ∃ i, (i ∈ named ∧ (tget c.slots i).state ≠ .free) ∧ (tget c.slots i).state = .filling then .ok
      else .already := by
  simp only [CaptureUnit.cancelStatus, List.any_eq_true, CaptureUnit.mem_targets, beq_iff_eq]

/-- Settles O28: a CANCEL without a target is refused, and one with targets closes those that are FILLING. -/
theorem cancelTaken : Obligations.CancelTaken := by
  intro s c named hdis hnamed hnone
  refine ⟨fun hno => ?_, fun ⟨i, hi⟩ => ?_⟩
  · have hempty : s.cap.targets named = [] :=
      List.eq_nil_iff_forall_not_mem.2 fun i hi => hno i (CaptureUnit.mem_targets.1 hi)
    simp only [exec, execCancel, hdis.dispatched, hnamed, hnone, hempty, if_true]
    rw [State.complete, hdis.complete_cancel]
    rfl
  · have hne : s.cap.targets named ≠ [] := List.ne_nil_of_mem (CaptureUnit.mem_targets.2 hi)
    have hslot (j : SlotId) (u : CaptureUnit)
        (hu : u.slots = tmap (fun i sl => sl.onCancel (decide (i ∈ s.cap.targets named))) s.cap.slots) :
        (s.withCap u).slot j = (s.slot j).onCancel (decide (j ∈ s.cap.targets named)) := by
      rw [State.withCap_slot, hu]
      exact tget_tmap _ _ _
    refine ⟨s.withCap
      { s.cap with
        slots := tmap (fun i sl => sl.onCancel (decide (i ∈ s.cap.targets named))) s.cap.slots
        cancelling := some { targets := s.cap.targets named, status := s.cap.cancelStatus (s.cap.targets named) } },
      { targets := s.cap.targets named, status := s.cap.cancelStatus (s.cap.targets named) }, ?_, rfl,
      fun i => CaptureUnit.mem_targets, s.cap.cancelStatus_eq named, fun j hj hfill => ?_, fun j hj => ?_⟩
    · simp only [exec, execCancel, hdis.dispatched, hnamed, hnone, hne, if_false]
    · rw [hslot j _ rfl, Slot.onCancel, if_pos ⟨decide_eq_true (CaptureUnit.mem_targets.2 hj), hfill⟩, Slot.close_eq]
    · rw [hslot j _ rfl, Slot.onCancel, if_neg]
      rintro ⟨ht, hfill⟩
      exact hj ⟨CaptureUnit.mem_targets.1 (of_decide_eq_true ht), hfill⟩

end Sys2Proof.Machine
end

/-! PROOFS. Buffer supply and the tails: the checks of a descriptor (O31), the answer to the BQ read (O32), and the judgement
of the tail and head writes (O43, O37). -/

section
namespace Sys2Proof.Machine

/-! ### Descriptors -/

theorem aligned64_iff (a : Addr) : aligned64 a = true ↔ a.toNat % 64 = 0 := by
  unfold aligned64
  rw [beq_iff_eq, ← BitVec.toNat_inj]
  simp [BitVec.extractLsb'_toNat]

/-- The outcome of the checks of R103, by the first that fails. -/
theorem Descriptor.reject_cases (d : Descriptor) :
    (d.capacity = 0 ∧ d.reject = some .zeroCapacity) ∨
    (1048576 < d.capacity ∧ d.reject = some .overCapacity) ∨
    (1 ≤ d.capacity ∧ d.capacity ≤ 1048576 ∧ d.address.toNat % 64 ≠ 0 ∧ d.reject = some .misaligned) ∨
    (1 ≤ d.capacity ∧ d.capacity ≤ 1048576 ∧ d.address.toNat % 64 = 0 ∧ d.reject = none) := by
  unfold Descriptor.reject
  split
  next h => exact .inl ⟨h, rfl⟩
  next h =>
    split
    next hover => exact .inr (.inl ⟨hover, rfl⟩)
    next hover =>
      simp only [Config.maxCapacity] at hover
      split
      next ha => exact .inr (.inr (.inl ⟨by omega, by omega, fun e => by simp [(aligned64_iff _).2 e] at ha, rfl⟩))
      next ha => exact .inr (.inr (.inr ⟨by omega, by omega, (aligned64_iff _).1 (by simpa using ha), rfl⟩))

/-- A field of the bytes read depends on its own bits only (R180). -/
theorem fieldAt_congr {x y : ReadData} {off w : Nat}
    (h : ∀ j, j < w → x.getLsbD (8 * off + j) = y.getLsbD (8 * off + j)) : fieldAt x off w = fieldAt y off w := by
  apply BitVec.eq_of_getLsbD_eq
  intro j hj
  simp only [fieldAt, BitVec.getLsbD_extractLsb', hj, decide_true, Bool.true_and, h j hj]

/-- Settles O31: the four outcomes of the checks exclude one another, and a descriptor's fields leave out its reserved
byte. -/
theorem descriptorChecks : Obligations.DescriptorChecks := by
  refine ⟨fun d => ?_, fun d x => rfl, fun x y i h => ?_⟩
  · obtain ⟨hc, e⟩ | ⟨hc, e⟩ | ⟨hc, hc', ha, e⟩ | ⟨hc, hc', ha, e⟩ := d.reject_cases
    · rw [e]; simp [hc]
    · rw [e]; simp; omega
    · rw [e]; simp [ha]; omega
    · rw [e]; simp [ha]; omega
  · have same (off w : Nat) (hw : 8 * off + w ≤ 88 ∨ (96 ≤ 8 * off ∧ 8 * off + w ≤ 128)) :
        fieldAt x (16 * i + off) w = fieldAt y (16 * i + off) w := by
      refine fieldAt_congr fun j hj => ?_
      have e : 8 * (16 * i + off) + j = 128 * i + (8 * off + j) := by ring
      rw [e]
      exact h _ (by omega) (by omega)
    unfold descriptorAt
    rw [same 8 24 (by omega), same 12 32 (by omega), show 16 * i = 16 * i + 0 from rfl, same 0 64 (by omega)]

/-! ### A batch -/

/-- The descriptors of a batch from its `i`-th on, each with its BQ index (R102). -/
def batchFrom (data : ReadData) (first i n : Nat) : List (Nat × Descriptor) :=
  (List.range' i n).map fun j => (first + j, descriptorAt data j)

/-- The descriptors that join the Buffer Cache (R102, R103). -/
def acceptedOf (batch : List (Nat × Descriptor)) : List Descriptor :=
  (batch.filter fun x => x.2.reject == none).map fun x => x.2

/-- The records that join the Rejection List (R102, R103). -/
def rejectedOf (batch : List (Nat × Descriptor)) : List Rejection :=
  batch.filterMap fun x => x.2.reject.map fun why => { tag := x.2.tag, reason := why, bqIndex := x.1 }

/-- Each descriptor joins the tail of its list, in BQ order (R102). -/
theorem takeDescriptors_eq (data : ReadData) (first n i : Nat) (cache : List Descriptor) (rejections : List Rejection) :
    takeDescriptors data first n i (cache, rejections) =
      (cache ++ acceptedOf (batchFrom data first i n), rejections ++ rejectedOf (batchFrom data first i n)) := by
  induction n generalizing i cache rejections with
  | zero => simp [takeDescriptors, batchFrom, acceptedOf, rejectedOf]
  | succ n ih =>
    have hcons : batchFrom data first i (n + 1) = (first + i, descriptorAt data i) :: batchFrom data first (i + 1) n := by
      simp [batchFrom, List.range'_succ]
    rw [hcons]
    cases h : (descriptorAt data i).reject with
    | none => simp [takeDescriptors, h, ih, acceptedOf, rejectedOf]
    | some why => simp [takeDescriptors, h, ih, acceptedOf, rejectedOf]

/-! ### Answers to an ACTIVE entry -/

theorem State.takeResponse_of_active {s : State} {r : Response} {q : Requester} {size : Nat} {e : Option Tick}
    (h : s.entry r.tag = .active q size e) :
    s.takeResponse r = ((s.setEntry r.tag .free).deliver q r.tag r.answer r.data).endPassage := by
  simp only [State.takeResponse, h]

theorem State.entryReplaced_of_entries {s t : State} {tag : Tag} {x : PortEntry}
    (h : t.port.entries = tset s.port.entries tag x) : s.EntryReplaced t tag x := by
  constructor
  · rw [State.entry, h]; exact tget_tset_same _ _ _
  · intro u hu
    rw [State.entry, h]
    exact (tget_tset _ _ _ _).trans (if_neg hu)

/-- While a passage waits for another entry, what an answer delivers is what it leaves. -/
theorem State.PassageWaits.endPassage {s t : State} {tag : Tag} {x : PortEntry} (h : s.PassageWaits tag)
    (ht : t.port.entries = tset s.port.entries tag x) : t.endPassage = t := by
  obtain ⟨-, u, hu, hactive⟩ := h
  refine State.endPassage_of_active (u := u) ?_
  rw [(State.entryReplaced_of_entries ht).2 u hu]
  exact hactive

/-- A part that absorbs an answer: FAULTED, or in a passage that waits for another entry. -/
theorem State.absorbs {s t : State} {tag : Tag} {x : PortEntry} (h : s.ctl.device = .faulted ∨ s.PassageWaits tag)
    (ht : t.port.entries = tset s.port.entries tag x) (hd : t.ctl.device = s.ctl.device) : t.endPassage = t := by
  obtain h | h := h
  · exact State.endPassage_of_not_passing (by simp [hd, h]) (by simp [hd, h])
  · exact h.endPassage ht

theorem State.not_enabled_of_absorbs {s : State} {tag : Tag} (h : s.ctl.device = .faulted ∨ s.PassageWaits tag) :
    s.ctl.device ≠ .enabled := by
  obtain h | ⟨h | h, -⟩ := h <;> simp [h]

/-! ### The BQ read -/

theorem State.toFetcher_absorbed {s : State} (h : s.ctl.device ≠ .enabled) (ans : Answer) (data : ReadData) :
    s.toFetcher ans data = s.withFetch { s.fetch with fetch := .idle, batch := none } := by
  unfold State.toFetcher
  split
  next h' _ => exact absurd h' h
  next => rfl

theorem State.toFetcher_enabled {s : State} {b : Batch} (h : s.ctl.device = .enabled) (hb : s.fetch.batch = some b)
    (ans : Answer) (data : ReadData) : s.toFetcher ans data = s.bqRead b ans data := by
  simp only [State.toFetcher, h, hb]

/-- A batch taken, in full (R102). -/
theorem State.bqRead_ok_eq {s : State} (hd : s.ctl.device = .enabled) (b : Batch) (data : ReadData) :
    let batch := batchFrom data b.first 0 b.length
    let head := (s.fetch.head + b.length) % s.fetch.size
    s.bqRead b .ok data =
      { s with
        cap := { s.cap with cache := s.cap.cache ++ acceptedOf batch }
        fetch :=
          { s.fetch with
            head := head
            rejections := s.fetch.rejections ++ rejectedOf batch
            batch := none
            fetch :=
              if 0 < ringDistance s.fetch.size head s.fetch.tail ∧
                  s.cap.cache.length + (acceptedOf batch).length < 4 ∧ s.fetch.rejections ++ rejectedOf batch = [] then
                .requested
              else .idle } } := by
  intro batch head
  unfold State.bqRead
  simp only [takeDescriptors_eq]
  unfold State.checkBufferFetch
  simp only [State.withFetch_ctl, State.withCap_ctl, hd, State.withFetch_fetch, true_and, State.withFetch_cap,
    State.withCap_cap, List.length_append, Config.cacheDepth]
  by_cases h : 0 < ringDistance s.fetch.size head s.fetch.tail ∧
    s.cap.cache.length + (acceptedOf batch).length < 4 ∧ s.fetch.rejections ++ rejectedOf batch = []
  · rw [if_pos h, if_pos (by exact h)]
    rfl
  · rw [if_neg h, if_neg (by exact h)]
    rfl

/-- Settles O32: the answer is taken by the Buffer Fetcher in ENABLED, and absorbed in FAULTED and a waiting passage. -/
theorem bqReadAnswered : Obligations.BqReadAnswered := by
  refine ⟨fun s r size e b hd he hb => ⟨fun hok => ?_, fun herr => ?_⟩, fun s r size e he habs => ?_⟩
  · refine ⟨(s.setEntry r.tag .free).bqRead b .ok r.data, ?_, ?_, ?_⟩
    · show Host.Outcome.next (s.takeResponse r) = _
      rw [State.takeResponse_of_active he, hok, State.deliver,
        State.toFetcher_enabled (s := s.setEntry r.tag .free) hd hb]
      rw [State.endPassage_of_enabled]
      rw [State.bqRead_ok_frame]
      exact hd
    · refine State.entryReplaced_of_entries ?_
      rw [State.bqRead_ok_frame]
      rfl
    · rw [State.bqRead_ok_eq (s := s.setEntry r.tag .free) hd]
      simp only [batchFrom, ← List.range_eq_range', acceptedOf, rejectedOf, State.setEntry_fetch, State.setEntry_cap]
      rfl
  · refine ⟨((s.setEntry r.tag .free).withFetch { s.fetch with fetch := .idle, batch := none }).enterFaulted .bqRead,
      ?_, ?_, ?_⟩
    · show Host.Outcome.next (s.takeResponse r) = _
      rw [State.takeResponse_of_active he, herr, State.deliver,
        State.toFetcher_enabled (s := s.setEntry r.tag .free) hd hb]
      simp only [State.bqRead]
      rw [State.fatal_of_enabled (by exact hd), State.endPassage_of_not_passing]
      · rfl
      · rw [State.enterFaulted_eq]; exact (nomatch ·)
      · rw [State.enterFaulted_eq]; exact (nomatch ·)
    · refine State.entryReplaced_of_entries ?_
      rw [State.enterFaulted_eq]
      rfl
    · rw [State.enterFaulted_eq]
      exact ⟨rfl, rfl, rfl, rfl⟩
  · refine ⟨(s.setEntry r.tag .free).withFetch { s.fetch with fetch := .idle, batch := none }, ?_,
      State.entryReplaced_of_entries rfl, rfl⟩
    have hd : s.ctl.device ≠ .enabled := State.not_enabled_of_absorbs habs
    show Host.Outcome.next (s.takeResponse r) = _
    rw [State.takeResponse_of_active he, State.deliver,
      State.toFetcher_absorbed (s := s.setEntry r.tag .free) hd]
    exact congrArg _ (State.absorbs habs rfl rfl)

/-! ### Tail and head writes -/

theorem exec_cqTailWrite_ignored {s : State} (h : s.ctl.device ≠ .enabled) (v : Word) :
    exec (.cqTailWrite v) s = .next s :=
  congrArg _ (if_neg fun e => h e.1)

theorem exec_bqTailWrite_ignored {s : State} (h : s.ctl.device ≠ .enabled) (v : Word) :
    exec (.bqTailWrite v) s = .next s :=
  congrArg _ (if_neg fun e => h e.1)

theorem exec_eqHeadWrite_ignored {s : State} (h : s.ctl.device ≠ .enabled) (v : Word) :
    exec (.eqHeadWrite v) s = .next s :=
  congrArg _ (if_neg fun e => h e.1)

theorem judgeTail_outOfRange {size head available : Nat} {v : Word}
    (h : size ≤ v.toNat ∨ ringDistance size head v.toNat < available) :
    judgeTail size head available v = .outOfRange := by
  unfold judgeTail
  split_ifs with h1 h2
  · rfl
  · rfl
  · exact absurd h (by tauto)
  · exact absurd h (by tauto)

theorem judgeTail_unchanged {size head available : Nat} {v : Word} (h : v.toNat < size)
    (he : ringDistance size head v.toNat = available) : judgeTail size head available v = .unchanged := by
  unfold judgeTail
  rw [if_neg (by omega), if_neg (by omega), if_pos he]

theorem judgeTail_raised {size head available : Nat} {v : Word} (h : v.toNat < size)
    (hlt : available < ringDistance size head v.toNat) : judgeTail size head available v = .raised v.toNat := by
  unfold judgeTail
  rw [if_neg (by omega), if_neg (by omega), if_neg (by omega)]

/-- What the entry into FAULTED leaves of the rings, and what it sets (R176). -/
theorem State.enterFaulted_rings (s : State) (code : FaultCode) :
    (s.enterFaulted code).ctl.device = .faulted ∧ (s.enterFaulted code).ctl.faultCode = code ∧
      (s.enterFaulted code).cmd.tail = s.cmd.tail ∧ (s.enterFaulted code).fetch.tail = s.fetch.tail ∧
      (s.enterFaulted code).evt.head = s.evt.head ∧ (s.enterFaulted code).evt.interrupt.fault = true := by
  rw [s.enterFaulted_eq]
  exact ⟨rfl, rfl, rfl, rfl, rfl, rfl⟩

theorem exec_cqTailWrite_outOfRange {s : State} {v : Word} (hd : s.ctl.device = .enabled) (hpin : s.resetAsserted = false)
    (h : s.cmd.size ≤ v.toNat ∨ ringDistance s.cmd.size s.cmd.head v.toNat < s.cmd.available) :
    exec (.cqTailWrite v) s = .next (s.enterFaulted .cqTailRange) := by
  simp only [exec, execCqTailWrite, hd, hpin, and_self, if_true, judgeTail_outOfRange h, State.fatal_of_enabled hd]

theorem exec_cqTailWrite_unchanged {s : State} {v : Word} (hd : s.ctl.device = .enabled) (hpin : s.resetAsserted = false)
    (h : v.toNat < s.cmd.size) (he : ringDistance s.cmd.size s.cmd.head v.toNat = s.cmd.available) :
    exec (.cqTailWrite v) s = .next s := by
  simp only [exec, execCqTailWrite, hd, hpin, and_self, if_true, judgeTail_unchanged h he]

theorem exec_cqTailWrite_raised {s : State} {v : Word} (hd : s.ctl.device = .enabled) (hpin : s.resetAsserted = false)
    (h : v.toNat < s.cmd.size) (hlt : s.cmd.available < ringDistance s.cmd.size s.cmd.head v.toNat) :
    exec (.cqTailWrite v) s = .next (s.withCmd { s.cmd with tail := v.toNat }).checkCommandFetch := by
  simp only [exec, execCqTailWrite, hd, hpin, and_self, if_true, judgeTail_raised h hlt]

theorem exec_bqTailWrite_outOfRange {s : State} {v : Word} (hd : s.ctl.device = .enabled) (hpin : s.resetAsserted = false)
    (h : s.fetch.size ≤ v.toNat ∨ ringDistance s.fetch.size s.fetch.head v.toNat < s.fetch.available) :
    exec (.bqTailWrite v) s = .next (s.enterFaulted .bqTailRange) := by
  simp only [exec, execBqTailWrite, hd, hpin, and_self, if_true, judgeTail_outOfRange h, State.fatal_of_enabled hd]

theorem exec_bqTailWrite_unchanged {s : State} {v : Word} (hd : s.ctl.device = .enabled) (hpin : s.resetAsserted = false)
    (h : v.toNat < s.fetch.size) (he : ringDistance s.fetch.size s.fetch.head v.toNat = s.fetch.available) :
    exec (.bqTailWrite v) s = .next s := by
  simp only [exec, execBqTailWrite, hd, hpin, and_self, if_true, judgeTail_unchanged h he]

theorem exec_bqTailWrite_raised {s : State} {v : Word} (hd : s.ctl.device = .enabled) (hpin : s.resetAsserted = false)
    (h : v.toNat < s.fetch.size) (hlt : s.fetch.available < ringDistance s.fetch.size s.fetch.head v.toNat) :
    exec (.bqTailWrite v) s = .next (s.withFetch { s.fetch with tail := v.toNat }).checkBufferFetch := by
  simp only [exec, execBqTailWrite, hd, hpin, and_self, if_true, judgeTail_raised h hlt]

/-- Settles O43: each tail write is judged by `judgeTail`, and a raised tail makes the check of its block. -/
theorem tailsWritten : Obligations.TailsWritten := by
  refine ⟨fun s v hpin => ⟨fun hd => exec_cqTailWrite_ignored hd v, fun hd => ⟨fun hbad => ?_, fun hlt he =>
      exec_cqTailWrite_unchanged hd hpin hlt he, fun hlt hmore => ?_⟩⟩,
    fun s v hpin => ⟨fun hd => exec_bqTailWrite_ignored hd v, fun hd => ⟨fun hbad => ?_, fun hlt he =>
      exec_bqTailWrite_unchanged hd hpin hlt he, fun hlt hmore => ?_⟩⟩⟩
  · obtain ⟨hdev, hcode, htail, -, -, hfault⟩ := s.enterFaulted_rings .cqTailRange
    exact ⟨_, exec_cqTailWrite_outOfRange hd hpin hbad, hdev, hcode, htail, hfault⟩
  · rw [exec_cqTailWrite_raised hd hpin hlt hmore]
    obtain ⟨-, hidle, -, e⟩ | ⟨hno, e⟩ := (s.withCmd { s.cmd with tail := v.toNat }).checkCommandFetch_cases
    · have hidle : s.cmd.state = .idle := hidle
      rw [e, if_pos hidle]; rfl
    · have hbusy : s.cmd.state ≠ .idle := fun hidle => hno ⟨hd, hidle, (Nat.zero_le _).trans_lt hmore⟩
      rw [e, if_neg hbusy]; rfl
  · obtain ⟨hdev, hcode, -, htail, -, hfault⟩ := s.enterFaulted_rings .bqTailRange
    exact ⟨_, exec_bqTailWrite_outOfRange hd hpin hbad, hdev, hcode, htail, hfault⟩
  · rw [exec_bqTailWrite_raised hd hpin hlt hmore]
    obtain ⟨⟨-, hidle, -, hroom, hnone⟩, e⟩ | ⟨hno, e⟩ :=
      (s.withFetch { s.fetch with tail := v.toNat }).checkBufferFetch_cases
    · have hdue : s.fetch.fetch = .idle ∧ s.cap.cache.length < 4 ∧ s.fetch.rejections = [] := ⟨hidle, hroom, hnone⟩
      rw [e, if_pos hdue]; rfl
    · have hbusy : ¬ (s.fetch.fetch = .idle ∧ s.cap.cache.length < 4 ∧ s.fetch.rejections = []) :=
        fun ⟨hidle, hroom, hnone⟩ => hno ⟨hd, hidle, (Nat.zero_le _).trans_lt hmore, hroom, hnone⟩
      rw [e, if_neg hbusy]; rfl

/-- Settles O37: an EQ_HEAD write is judged by the size and the fill, and a valid one leaves its distance as the fill. -/
theorem eqHeadWritten : Obligations.EqHeadWritten := by
  intro s v hpin
  refine ⟨fun hd => exec_eqHeadWrite_ignored hd v, fun hd => ⟨fun hbad => ?_, fun hlt hle => ?_⟩⟩
  · obtain ⟨hdev, hcode, -, -, hhead, hfault⟩ := s.enterFaulted_rings .eqHeadRange
    refine ⟨s.enterFaulted .eqHeadRange, ?_, hdev, hcode, hhead, hfault⟩
    rw [← State.fatal_of_enabled hd]
    exact congrArg _ ((if_pos ⟨hd, hpin⟩).trans (if_pos hbad))
  · exact ⟨s.withHead v.toNat, exec_eqHeadWrite_valid hpin hd hlt hle, rfl, rfl⟩

end Sys2Proof.Machine
end

/-! PROOFS. Event choices and the Event Writer (chapter 6): O33, O34, O35, O36, and the answers before a CAPTURE_DONE (O29). -/

section
namespace Sys2Proof.Machine

/-! ### The first place of a table that answers -/

theorem findSome?_finRange {α : Type} {n : Nat} {f : Fin n → Option α} {i : Fin n} {a : α} (h : f i = some a)
    (hlow : ∀ j, j < i → f j = none) : (List.finRange n).findSome? f = some a := by
  rw [List.findSome?_eq_some_iff]
  refine ⟨(List.finRange n).take i, i, (List.finRange n).drop (i + 1), ?_, h, fun j hj => hlow j ?_⟩
  · have hi : i.val < (List.finRange n).length := by simp
    have hdrop := List.drop_eq_getElem_cons hi
    rw [List.getElem_finRange] at hdrop
    conv_lhs => rw [← List.take_append_drop i.val (List.finRange n), hdrop]
    rfl
  · obtain ⟨k, hk, rfl⟩ := List.mem_take_iff_getElem.1 hj
    simp only [List.getElem_finRange, Fin.lt_def, Fin.val_cast]
    omega

theorem find?_finRange {n : Nat} {p : Fin n → Bool} {i : Fin n} (h : p i = true) (hlow : ∀ j, j < i → p j = false) :
    (List.finRange n).find? p = some i := by
  rw [← List.findSome?_guard]
  exact findSome?_finRange (f := Option.guard p) (i := i) (by simp [Option.guard, h])
    fun j hj => by simp [Option.guard, hlow j hj]

/-! ### Choices -/

theorem exec_eventChoice_of_offered {s : State} {x : EventContent} (hmay : s.mayChoose = true) (h : s.Offered x) :
    exec .eventChoice s = .next (s.choose x) := by
  simp only [exec, execEventChoice, hmay, State.offer_eq_some.2 h, if_true]

theorem exec_eventChoice_of_none {s : State} (h : ¬ s.mayChoose = true ∨ s.offer = none) :
    exec .eventChoice s = .next s := by
  simp only [exec, execEventChoice]
  obtain h | h := h
  · rw [if_neg h]
  · rw [h]
    split <;> rfl

/-- A choice that puts an event in flight is of an item offered (R111, R112). -/
theorem exec_eventChoice_chosen {s t : State} {f : InFlight} (hnone : s.evt.inFlight = none)
    (h : exec .eventChoice s = .next t) (ht : t.evt.inFlight = some f) :
    s.mayChoose = true ∧ s.Offered f.content ∧ t = s.choose f.content := by
  have stayed (e : t = s) : False := by
    subst e
    cases hnone.symm.trans ht
  by_cases hmay : s.mayChoose = true
  · cases hx : s.offer with
    | none => exact (stayed (Host.Outcome.next.inj (h.symm.trans (exec_eventChoice_of_none (.inr hx))))).elim
    | some x =>
      have hx := State.offer_eq_some.1 hx
      have e : t = s.choose x := Host.Outcome.next.inj (h.symm.trans (exec_eventChoice_of_offered hmay hx))
      subst e
      cases Option.some.inj ht
      exact ⟨hmay, hx, rfl⟩
  · exact (stayed (Host.Outcome.next.inj (h.symm.trans (exec_eventChoice_of_none (.inl hmay))))).elim

theorem CaptureUnit.offer_of_no_posting {c : CaptureUnit} (h : ∀ i, (tget c.slots i).state ≠ .posting) :
    c.offer = none :=
  CaptureUnit.offer_eq_none.2 fun i e => absurd e (h i)

/-- The lowest-numbered slot in POSTING is offered (R110). -/
theorem CaptureUnit.offer_of_lowest {c : CaptureUnit} {i : SlotId} {d : CaptureDone}
    (h : (tget c.slots i).captureDone i = some d) (hlow : ∀ j, j < i → (tget c.slots j).state ≠ .posting) :
    c.offer = some d :=
  findSome?_finRange h fun j hj => Slot.captureDone_eq_none.2 fun e => absurd e (hlow j hj)

/-- Settles O33: the choice acts under `mayChoose`, on the item of the first source in rank. -/
theorem choiceByRank : Obligations.ChoiceByRank := by
  refine ⟨fun s h => ?_, fun s hd hnone hroom hstatus => ?_⟩
  · refine exec_eventChoice_of_none ?_
    obtain h | ⟨hslots, hhalt, hheld, hrej, hrep⟩ := h
    · exact .inl fun e => h (State.mayChoose_iff.1 e)
    · refine .inr (Option.eq_none_iff_forall_ne_some.2 fun x hx => ?_)
      have hoffer := CaptureUnit.offer_of_no_posting (c := s.cap) hslots
      cases State.offer_eq_some.1 hx with
      | captureDone d e => cases hoffer.symm.trans e
      | acqHalt r _ e => cases hhalt.symm.trans e
      | cmdDone d _ _ e => cases hheld.symm.trans e
      | bufferReject r rest _ _ _ e => cases hrej.symm.trans e
      | watchReport w rest _ _ _ _ e e' =>
        obtain hrep | hrep := hrep
        · cases hrep.symm.trans e
        · cases hrep.symm.trans e'
  · have hmay := State.mayChoose_iff.2 ⟨hd, hnone, hroom⟩
    have chosen {x : EventContent} (hx : s.Offered x) : ∃ t, exec .eventChoice s = .next t ∧
        t.evt =
          { s.evt with
            inFlight := some { index := s.evt.tail, phase := s.evt.lapParity, eventTick := s.tick, content := x }
            request := .standing } :=
      ⟨s.choose x, exec_eventChoice_of_offered hmay hx, rfl⟩
    refine ⟨fun i st hpost hst hlow => chosen (.captureDone _ (CaptureUnit.offer_of_lowest (i := i)
      (Slot.captureDone_eq_some.2 ⟨hpost, st, hst, rfl⟩) hlow)), fun hslots => ?_⟩
    have hoffer := CaptureUnit.offer_of_no_posting (c := s.cap) hslots
    exact ⟨fun h hh => chosen (.acqHalt h hoffer hh), fun hhalt => ⟨fun d hh => chosen (.cmdDone d hoffer hhalt hh),
      fun hheld => ⟨fun r rest hr => chosen (.bufferReject r rest hoffer hhalt hheld hr),
        fun hrej w rest hw hb => by
          have := chosen (.watchReport w rest hoffer hhalt hheld hrej hw hb)
          simpa only [Watch.report, beq_eq_decide] using this⟩⟩⟩

/-! ### CAPTURE_DONE -/

/-- No ACTIVE entry belongs to a requester that has none (R151). -/
theorem MemoryPort.not_active_of_count {m : MemoryPort} {q : Requester} (h : m.activeCount q = 0) (tag : Tag)
    (size : Nat) (e : Option Tick) : tget m.entries tag ≠ .active q size e := by
  intro hactive
  have hmem : tag ∈ (List.finRange 8).filter fun t => (tget m.entries t).ownedBy q := by
    simp [hactive, PortEntry.ownedBy]
  rw [List.length_eq_zero_iff.1 h] at hmem
  exact List.not_mem_nil hmem

/-- Settles O29: a slot in POSTING has no write outstanding, and each ACTIVE entry of a slot is one. -/
theorem captureDoneAfterAnswers : Obligations.CaptureDoneAfterAnswers := by
  intro s t f d hcap hown h hnone ht hf
  obtain ⟨-, hoffer, -⟩ := exec_eventChoice_chosen hnone h ht
  rw [hf] at hoffer
  cases hoffer with
  | captureDone d hd =>
    obtain ⟨hpost, -⟩ := Slot.captureDone_eq_some.1 (CaptureUnit.offer_eq_some hd)
    obtain ⟨-, -, -, -, -, -, hquiet⟩ := hcap.1 d.slot
    obtain ⟨⟨-, -, -, -, howned⟩, -⟩ := hown
    exact ⟨hpost, MemoryPort.not_active_of_count ((howned d.slot).trans (hquiet hpost))⟩

/-- Settles O34: the three outcomes of `captureDoneChosen` are those of a waiting CANCEL. -/
theorem captureDoneChosen : Obligations.CaptureDoneChosen := by
  intro s t f d hnone h ht hf
  obtain ⟨-, -, e⟩ := exec_eventChoice_chosen hnone h ht
  rw [hf] at e
  have hframe := s.captureDoneChosen_frame d.slot
  have hcap : t.cap = (s.captureDoneChosen d.slot).cap := by rw [e]; rfl
  have hcmd : t.cmd = (s.captureDoneChosen d.slot).cmd := by rw [e]; rfl
  have hcap' : t.cap = { s.cap with slots := tset s.cap.slots d.slot .freeSlot, cancelling := t.cap.cancelling } := by
    rw [hcap, hframe]
  refine ⟨?_, ⟨?_, fun j hj => ?_⟩, ?_, ?_, fun hc => ?_, fun p hp => ⟨fun hleft hne => ?_, fun hleft => ?_⟩⟩
  · rw [hcap, hcmd, e]
    simp only [State.choose, State.itemChosen]
    rw [hframe]
    rfl
  · rw [State.slot, hcap']; exact tget_tset_same _ _ _
  · rw [State.slot, hcap']; exact (tget_tset _ _ _ _).trans (if_neg hj)
  · rw [hcap']
  · rw [hcap']
  · obtain ⟨p, hp, -⟩ | ⟨p, hp, -⟩ | ⟨-, e'⟩ := s.captureDoneChosen_cases d.slot
    · cases hc.symm.trans hp
    · cases hc.symm.trans hp
    · rw [hcap, hcmd, e']; exact ⟨hc, rfl⟩
  · obtain ⟨q, hq, hi, -, e'⟩ | ⟨q, hq, hi, hleft', -⟩ | ⟨hno, -⟩ := s.captureDoneChosen_cases d.slot
    · cases hp.symm.trans hq
      rw [hcap, hcmd, e']
      refine ⟨rfl, fun c hcur hkind => ?_⟩
      exact (CommandUnit.complete_eq_completedWith (u := s.cmd) hcur _).trans
        (by rw [CommandRecord.detail_of_cancel hkind])
    · cases hp.symm.trans hq
      exact absurd hleft (by simpa using hleft')
    · have hall : p.targets.filter (· ≠ d.slot) = p.targets :=
        List.filter_eq_self.2 fun a ha => decide_eq_true fun e => hno p hp (e ▸ ha)
      exact absurd (hall.symm.trans (by simpa using hleft)) hne
  · obtain ⟨q, hq, hi, hleft', -⟩ | ⟨q, hq, hi, hleft', e'⟩ | ⟨hno, e'⟩ := s.captureDoneChosen_cases d.slot
    · cases hp.symm.trans hq
      exact absurd (by simpa using hleft') hleft
    · cases hp.symm.trans hq
      rw [hcap, hcmd, e']
      exact ⟨rfl, rfl⟩
    · have hall : p.targets.filter (· ≠ d.slot) = p.targets :=
        List.filter_eq_self.2 fun a ha => decide_eq_true fun e => hno p hp (e ▸ ha)
      rw [hcap, hcmd, e']
      refine ⟨?_, rfl⟩
      have hsame : ({ p with targets := p.targets.filter fun i => i ≠ d.slot } : CancelProgress) = p := by
        rw [hall]
      rw [hsame]
      exact hp

/-! ### The other sources -/

/-- The context after its report is chosen, field by field (R19). -/
theorem Watch.reported_eq (w : Watch) :
    w.reported =
      { w with
        fireCount := 0, firstFire := none, lastFire := none, lastFireTick := 0, missed := 0
        state := if w.state = .done then .idle else w.state
        endReason := if w.state = .done then .none else w.endReason } := by
  unfold Watch.reported
  split <;> rfl

/-- Settles O35: what the choice of an item leaves is what `itemChosen` says of its source. -/
theorem choiceAtSource : Obligations.ChoiceAtSource := by
  refine ⟨fun s t f hnone h ht => ?_, fun s t f r hnone h ht hf => ?_⟩
  · obtain ⟨hmay, hoffer, e⟩ := exec_eventChoice_chosen hnone h ht
    refine ⟨fun r hf => ?_, fun d hf => ?_, fun r hf => ?_⟩
    · rw [hf] at hoffer e
      cases hoffer with
      | acqHalt r _ hr =>
        refine ⟨hr, ?_⟩
        have hevt : t.evt = s.evt.holding s.tick (.acqHalt r) := by rw [e]; rfl
        rw [hevt, e]
        exact (State.checkStart_withEvt (s.withAcq { s.acq with pendingHalt := none }) _).symm
    · rw [hf] at hoffer e
      cases hoffer with
      | cmdDone d _ _ hd => exact ⟨hd, by rw [e]; rfl⟩
    · rw [hf] at hoffer e
      cases hoffer with
      | bufferReject r rest _ _ _ hr =>
        refine ⟨rest, hr, ?_⟩
        obtain ⟨hd, -, -⟩ := State.mayChoose_iff.1 hmay
        have hdrop : s.fetch.rejections.drop 1 = rest := by rw [hr]; rfl
        have hevt : t.evt = s.evt.holding s.tick (.bufferReject r) := by rw [e]; rfl
        rw [hevt, e]
        simp only [State.choose, State.itemChosen, hdrop]
        obtain ⟨⟨-, hidle, havail, hroom, hnil⟩, e'⟩ | ⟨hno, e'⟩ :=
          (s.withFetch { s.fetch with rejections := rest }).checkBufferFetch_cases
        · have hdue : s.fetch.fetch = .idle ∧ 0 < s.fetch.available ∧ s.cap.cache.length < 4 ∧ rest = [] :=
            ⟨hidle, havail, hroom, hnil⟩
          rw [e', if_pos hdue]; rfl
        · have hbusy : ¬ (s.fetch.fetch = .idle ∧ 0 < s.fetch.available ∧ s.cap.cache.length < 4 ∧ rest = []) :=
            fun hdue => hno ⟨hd, hdue⟩
          rw [e', if_neg hbusy]; rfl
  · obtain ⟨hmay, hoffer, e⟩ := exec_eventChoice_chosen hnone h ht
    rw [hf] at hoffer e
    cases hoffer with
    | watchReport w rest _ _ _ _ hw _ =>
      have hdrop : s.eng.reportList.drop 1 = rest := by rw [hw]; rfl
      refine ⟨⟨rest, hw, ?_⟩, ?_, fun v hv => ?_⟩
      · rw [e, ← hdrop]; rfl
      · rw [e]
        exact (tget_tset_same _ _ _).trans (s.watch w).reported_eq
      · rw [e]
        exact (tget_tset _ _ _ _).trans (if_neg hv)

/-! ### The answer to an EQ write -/

/-- An event written and counted, field by field (R116, R117, R123). -/
theorem EventWriter.count_advance_eq (e : EventWriter) (tick : Tick) :
    e.advance.count tick =
      { e with
        tail := (e.tail + 1) % e.size
        lapParity := if (e.tail + 1) % e.size = 0 then !e.lapParity else e.lapParity
        inFlight := none
        request := .none
        moderation := if e.threshold ≤ e.moderation + 1 then 0 else e.moderation + 1
        holdoffTimer :=
          if e.threshold ≤ e.moderation + 1 then none
          else if e.holdoffTimer = none ∧ 0 < e.holdoff then some (tick + BitVec.ofNat 48 e.holdoff)
          else e.holdoffTimer
        interrupt :=
          { e.interrupt with events := e.interrupt.events || decide (e.threshold ≤ e.moderation + 1) } } := by
  by_cases h : e.threshold ≤ e.moderation + 1
  · rw [EventWriter.count_of_threshold (e := e.advance) h]
    simp only [h, if_true, decide_true, Bool.or_true]
    rfl
  · rw [EventWriter.count_below (e := e.advance) h]
    simp only [h, if_false, decide_false, Bool.or_false]
    have htimer : (match e.advance.holdoffTimer with
        | some x => some x
        | none => if e.advance.holdoff = 0 then none else some (tick + BitVec.ofNat 48 e.advance.holdoff)) =
        if e.holdoffTimer = none ∧ 0 < e.holdoff then some (tick + BitVec.ofNat 48 e.holdoff) else e.holdoffTimer := by
      have hsame : e.advance.holdoffTimer = e.holdoffTimer ∧ e.advance.holdoff = e.holdoff := ⟨rfl, rfl⟩
      rw [hsame.1, hsame.2]
      cases e.holdoffTimer with
      | some x => simp
      | none =>
        by_cases hz : e.holdoff = 0
        · simp [hz]
        · simp [hz, Nat.pos_of_ne_zero hz]
    rw [← htimer]
    rfl

theorem State.eqWritten_ok_cmd_other {s : State} (h : s.evt.carriesCmdDone = false) :
    (s.eqWritten .ok).cmd = s.cmd := by
  rw [s.eqWritten_ok, State.eqWriteTold, h]
  rfl

/-- A CMD_DONE written frees the Command Unit for its next record (R145). -/
theorem State.eqWritten_ok_cmd_done {s : State} (hd : s.ctl.device = .enabled) (h : s.evt.carriesCmdDone = true)
    (hp : s.cmd.state = .posting) :
    (s.eqWritten .ok).cmd =
      if 0 < s.cmd.available then { s.cmd with state := .fetching, link := .standing } else { s.cmd with state := .idle } := by
  rw [s.eqWritten_ok, State.eqWriteTold, if_pos h, State.withEvt_cmd, State.cmdDoneWritten, if_pos hp]
  obtain ⟨-, -, havail, e⟩ | ⟨hno, e⟩ := (s.withCmd { s.cmd with state := .idle }).checkCommandFetch_cases
  · have havail : 0 < s.cmd.available := havail
    rw [e, if_pos havail]; rfl
  · have hnone : ¬ 0 < s.cmd.available := fun havail => hno ⟨hd, rfl, havail⟩
    rw [e, if_neg hnone]; rfl

theorem State.toWriter_failed {s : State} (hd : s.ctl.device = .enabled) :
    s.toWriter .error = (s.withEvt { s.evt with inFlight := none, request := .none }).enterFaulted .eqWrite := by
  simp only [State.toWriter, State.eqWritten, hd]
  exact State.fatal_of_enabled (by exact hd) _

theorem State.toWriter_faulted_ok {s : State} (hd : s.ctl.device = .faulted) :
    s.toWriter .ok = s.withEvt s.evt.advance := by
  simp only [State.toWriter, hd]

theorem State.toWriter_faulted_error {s : State} (hd : s.ctl.device = .faulted) :
    s.toWriter .error =
      (s.withEvt { s.evt with inFlight := none, request := .none }).setFault.withCtl { s.ctl with multi := true } := by
  have habs : s.toWriter .error = (s.withEvt { s.evt with inFlight := none, request := .none }).fatal .eqWrite := by
    simp only [State.toWriter, hd]
  exact habs.trans (State.fatal_of_faulted (s := s.withEvt { s.evt with inFlight := none, request := .none }) hd _)

theorem State.toWriter_absorbed {s : State} (h : s.ctl.device ≠ .enabled) (h' : s.ctl.device ≠ .faulted) (ans : Answer) :
    s.toWriter ans = s.withEvt { s.evt with inFlight := none, request := .none } := by
  unfold State.toWriter
  cases hd : s.ctl.device with
  | enabled => exact absurd hd h
  | faulted => exact absurd hd h'
  | disabled | starting | stopping | resetting => rfl

/-- Settles O36: the answer is counted in ENABLED, reported where it is an ERROR, and absorbed in a waiting passage. -/
theorem eqWriteAnswered : Obligations.EqWriteAnswered := by
  refine ⟨fun s r size e hd he hok => ?_, fun s r size e he => ?_, fun s r size e he hwait => ?_⟩
  · refine ⟨(s.setEntry r.tag .free).eqWritten .ok, exec_eqWriteResponse_ok hd he hok, ?_, ?_, ?_, fun hno => ?_,
      fun hdone hpost => ?_⟩
    · refine State.entryReplaced_of_entries ?_
      rw [State.eqWritten_ok_frame]
      rfl
    · rw [State.eqWritten_ok_frame]
      rfl
    · rw [State.eqWritten_ok_frame]
      exact EventWriter.count_advance_eq _ _
    · exact State.eqWritten_ok_cmd_other (s := s.setEntry r.tag .free) hno
    · exact State.eqWritten_ok_cmd_done (s := s.setEntry r.tag .free) hd hdone hpost
  · have hexec : exec (.eqWriteResponse r) s =
        .next ((s.setEntry r.tag .free).toWriter r.answer).endPassage :=
      congrArg _ (State.takeResponse_of_active he)
    refine ⟨_, hexec, fun hd herr => ?_, fun hd => ?_⟩
    · rw [herr, State.toWriter_failed (s := s.setEntry r.tag .free) hd, State.enterFaulted_eq,
        State.endPassage_of_not_passing (by simp) (by simp)]
      exact ⟨rfl, rfl, rfl, rfl, rfl, rfl, rfl, rfl⟩
    · have hfaulted : (s.setEntry r.tag .free).ctl.device = .faulted := hd
      cases hr : r.answer with
      | ok =>
        rw [State.toWriter_faulted_ok hfaulted,
          State.endPassage_of_not_passing (by simp [hd]) (by simp [hd])]
        exact ⟨State.entryReplaced_of_entries rfl, (nomatch ·), fun _ => rfl⟩
      | error =>
        rw [State.toWriter_faulted_error hfaulted,
          State.endPassage_of_not_passing (by simp [hd]) (by simp [hd])]
        exact ⟨State.entryReplaced_of_entries rfl, fun _ => rfl, (nomatch ·)⟩
  · obtain ⟨hd, -⟩ := id hwait
    have hd1 : s.ctl.device ≠ .enabled := by obtain hd | hd := hd <;> simp [hd]
    have hd2 : s.ctl.device ≠ .faulted := by obtain hd | hd := hd <;> simp [hd]
    refine ⟨(s.setEntry r.tag .free).withEvt { s.evt with inFlight := none, request := .none }, ?_,
      State.entryReplaced_of_entries rfl, rfl⟩
    refine congrArg _ ((State.takeResponse_of_active he).trans ?_)
    rw [State.deliver, State.toWriter_absorbed (s := s.setEntry r.tag .free) hd1 hd2]
    exact hwait.endPassage rfl

end Sys2Proof.Machine
end

/-! PROOFS. The Command Unit's answers (chapter 7: O44, O45) and the answer to the Setup Block read (chapter 9: O51). -/

section
namespace Sys2Proof.Machine

/-! ### The common checks of a record -/

theorem kindOf_eq_none {b : Byte} (h : b = 0x00 ∨ 0x09 < b.toNat) : kindOf b = none := by
  obtain rfl | h := h
  · rfl
  · unfold kindOf
    split
    all_goals simp_all

/-- The kinds that read the watch id field, by their codes (Table 10-3). -/
theorem kindOf_watchKind {b : Byte} (h : b = 0x02 ∨ b = 0x03 ∨ b = 0x04 ∨ b = 0x05 ∨ b = 0x06) :
    ∃ k, kindOf b = some k ∧ k.namesWatch = true := by
  obtain rfl | rfl | rfl | rfl | rfl := h <;> exact ⟨_, rfl, rfl⟩

/-- Of the kinds that read the watch id field, SNAPSHOT has the code 0x06. -/
theorem kindOf_snapshot_iff {b : Byte} (h : b = 0x02 ∨ b = 0x03 ∨ b = 0x04 ∨ b = 0x05 ∨ b = 0x06) :
    kindOf b = some .snapshot ↔ b = 0x06 := by
  obtain rfl | rfl | rfl | rfl | rfl := h <;> decide

theorem watchOf_isNone {b : Byte} : (watchOf b).isNone = true ↔ 64 ≤ b.toNat := by
  unfold watchOf
  split <;> simp <;> omega

theorem slotsOf_isNone {b : Byte} : (slotsOf b).isNone = true ↔ 4 ≤ b.toNat ∧ b ≠ 0xFF := by
  unfold slotsOf
  split
  next h => simp; omega
  next h =>
    split
    next he => simp [he]
    next he => exact iff_of_true rfl ⟨by omega, he⟩

theorem CommandRecord.takeRefusal_badKind {r : CommandRecord} (h : kindOf r.kind = none) :
    r.takeRefusal = some .badKind := by
  simp only [CommandRecord.takeRefusal, h]

theorem CommandRecord.takeRefusal_badWatch {r : CommandRecord} {k : CommandKind} (h : kindOf r.kind = some k)
    (hk : k.namesWatch = true) (hw : 64 ≤ r.watchId.toNat) : r.takeRefusal = some .badWatch := by
  simp only [CommandRecord.takeRefusal, h, hk, watchOf_isNone.2 hw, Bool.and_self, if_true]

/-- A record that names a watch, past the check of the watch: only a SNAPSHOT can fail, by its address (R138). -/
theorem CommandRecord.takeRefusal_namesWatch {r : CommandRecord} {k : CommandKind} (h : kindOf r.kind = some k)
    (hk : k.namesWatch = true) (hw : r.watchId.toNat < 64) :
    r.takeRefusal = if k = .snapshot ∧ r.snapshotAddress.toNat % 64 ≠ 0 then some .badField else none := by
  have hwatch : (watchOf r.watchId).isNone = false := eq_false_of_ne_true fun e => by
    have := watchOf_isNone.1 e
    omega
  have hcancel : (k == .cancel) = false := by
    cases k with
    | cancel => cases hk
    | _ => rfl
  have haligned : (k == .snapshot && !aligned64 r.snapshotAddress) = true ↔
      k = .snapshot ∧ r.snapshotAddress.toNat % 64 ≠ 0 := by
    simp [← aligned64_iff]
  simp only [CommandRecord.takeRefusal, h, hwatch, hcancel, Bool.and_false, Bool.false_and, Bool.false_eq_true, if_false,
    haligned]

theorem CommandRecord.takeRefusal_cancel {r : CommandRecord} (h : kindOf r.kind = some .cancel) :
    r.takeRefusal = if 4 ≤ r.slot.toNat ∧ r.slot ≠ 0xFF then some .badSlot else none := by
  simp only [CommandRecord.takeRefusal, h, ← slotsOf_isNone]
  cases (slotsOf r.slot).isNone <;> rfl

theorem CommandRecord.takeRefusal_plain {r : CommandRecord} {k : CommandKind} (h : kindOf r.kind = some k)
    (hk : k = .nop ∨ k = .start ∨ k = .stop) : r.takeRefusal = none := by
  simp only [CommandRecord.takeRefusal, h]
  obtain rfl | rfl | rfl := hk <;> rfl

/-! ### The take -/

/-- A record that fails a common check is completed at the take (R138, R141). -/
theorem CommandUnit.take_refused {u : CommandUnit} {r : CommandRecord} {st : CmdStatus} (h : r.takeRefusal = some st) :
    u.take r =
      { u with head := (u.head + 1) % u.size, link := .none }.completedWith
        { record := r, headAfter := (u.head + 1) % u.size } st r.detail := by
  simp only [CommandUnit.take, h]
  rfl

/-- A NOP is completed at the take (R142). -/
theorem CommandUnit.take_nop {u : CommandUnit} {r : CommandRecord} (h : kindOf r.kind = some .nop) :
    u.take r =
      { u with head := (u.head + 1) % u.size, link := .none }.completedWith
        { record := r, headAfter := (u.head + 1) % u.size } .ok none := by
  have hdetail : r.detail = none := by simp [CommandRecord.detail, h]
  rw [← hdetail]
  simp only [CommandUnit.take, CommandRecord.takeRefusal_plain h (.inl rfl), h, if_true]
  rfl

/-- Any other record is dispatched (R140). -/
theorem CommandUnit.take_dispatched {u : CommandUnit} {r : CommandRecord} (h : r.takeRefusal = none)
    (hk : kindOf r.kind ≠ some .nop) :
    u.take r =
      { u with
        head := (u.head + 1) % u.size, link := .none
        current := some { record := r, headAfter := (u.head + 1) % u.size }, state := .executing } := by
  simp only [CommandUnit.take, h, hk, if_false]

/-! ### Answers at the Command Unit -/

theorem State.enterFaulted_device (s : State) (code : FaultCode) : (s.enterFaulted code).ctl.device = .faulted :=
  (s.enterFaulted_rings code).1

theorem State.endPassage_enterFaulted (s : State) (code : FaultCode) :
    (s.enterFaulted code).endPassage = s.enterFaulted code :=
  State.endPassage_of_not_passing (by simp [State.enterFaulted_device]) (by simp [State.enterFaulted_device])

theorem State.toCommand_taken {s : State} (hd : s.ctl.device = .enabled) (hs : s.cmd.state = .fetching) (data : ReadData) :
    s.toCommand .ok data = s.withCmd (s.cmd.take (commandRecordOf data)) := by
  simp only [State.toCommand, State.cqRead, hd, hs, if_true]

theorem State.toCommand_failed {s : State} (hd : s.ctl.device = .enabled) (hs : s.cmd.state = .fetching) (data : ReadData) :
    s.toCommand .error data = (s.withCmd { s.cmd with state := .idle, link := .none }).enterFaulted .cqRead := by
  have h : s.toCommand .error data = (s.withCmd { s.cmd with state := .idle, link := .none }).fatal .cqRead := by
    simp only [State.toCommand, State.cqRead, hd, hs, if_true]
  exact h.trans (State.fatal_of_enabled (s := s.withCmd { s.cmd with state := .idle, link := .none }) hd _)

theorem State.toCommand_snapshot {s : State} (hd : s.ctl.device = .enabled) (hs : s.cmd.state = .executing) (ans : Answer)
    (data : ReadData) : s.toCommand ans data = s.snapshotWritten ans := by
  simp only [State.toCommand, hd, hs, if_true]

theorem State.toCommand_absorbed {s : State} (hd : s.ctl.device ≠ .enabled) (ans : Answer) (data : ReadData) :
    s.toCommand ans data = s.withCmd { s.cmd with link := .none } := by
  simp only [State.toCommand, if_neg hd]

/-- The response to a request of the Command Unit that is absorbed: only the request is over (R146, R147). -/
theorem State.takeResponse_command_absorbed {s : State} {r : Response} {size : Nat} {e : Option Tick}
    (he : s.entry r.tag = .active .command size e) (habs : s.ctl.device = .faulted ∨ s.PassageWaits r.tag) :
    s.takeResponse r = (s.setEntry r.tag .free).withCmd { s.cmd with link := .none } := by
  have hd : s.ctl.device ≠ .enabled := State.not_enabled_of_absorbs habs
  rw [State.takeResponse_of_active he, State.deliver, State.toCommand_absorbed (s := s.setEntry r.tag .free) hd]
  exact State.absorbs habs rfl rfl

/-- The OK response to the CQ read (R137). -/
theorem State.takeResponse_record {s : State} {r : Response} {size : Nat} {e : Option Tick}
    (hd : s.ctl.device = .enabled) (he : s.entry r.tag = .active .command size e) (hs : s.cmd.state = .fetching)
    (hok : r.answer = .ok) :
    s.takeResponse r = (s.setEntry r.tag .free).withCmd (s.cmd.take (commandRecordOf r.data)) := by
  rw [State.takeResponse_of_active he, hok, State.deliver, State.toCommand_taken (s := s.setEntry r.tag .free) hd hs]
  exact State.endPassage_of_enabled hd

/-- Settles O44: the record is taken as the common checks say, refused as a fault, or absorbed. -/
theorem cqReadAnswered : Obligations.CqReadAnswered := by
  refine ⟨fun s r size e hd he hs => ⟨fun hok => ?_, fun herr => ?_⟩, fun s tag record size e hnop hd he hs hcur => ?_,
    fun s r size e he habs => ?_⟩
  · have taken {u : CommandUnit} (hu : s.cmd.take (commandRecordOf r.data) = u) :
        ∃ t, exec (.cqReadResponse r) s = .next t ∧ s.EntryReplaced t r.tag .free ∧
          t = { s with cmd := u, port := { s.port with entries := t.port.entries } } :=
      ⟨(s.setEntry r.tag .free).withCmd u, congrArg _ (hu ▸ State.takeResponse_record hd he hs hok),
        State.entryReplaced_of_entries rfl, rfl⟩
    have refused {st : CmdStatus} {detail : Option Byte} (hst : (commandRecordOf r.data).takeRefusal = some st)
        (hdetail : (commandRecordOf r.data).detail = detail) := taken (hdetail ▸ CommandUnit.take_refused (u := s.cmd) hst)
    refine ⟨fun hk => ?_, fun hk hw => ?_, fun hk hslot hall => ?_, fun hk hw ha => ?_, fun hk => ?_, fun hgood => ?_⟩
    · have hnone := kindOf_eq_none hk
      exact refused (CommandRecord.takeRefusal_badKind hnone) (by simp [CommandRecord.detail, hnone])
    · obtain ⟨k, hk, hn⟩ := kindOf_watchKind hk
      exact refused (CommandRecord.takeRefusal_badWatch hk hn hw) (CommandRecord.detail_of_namesWatch hk hn)
    · have hk : kindOf (commandRecordOf r.data).kind = some .cancel := by rw [hk]; rfl
      exact refused ((CommandRecord.takeRefusal_cancel hk).trans (if_pos ⟨hslot, hall⟩))
        (CommandRecord.detail_of_cancel hk)
    · have hk : kindOf (commandRecordOf r.data).kind = some .snapshot := by rw [hk]; rfl
      exact refused ((CommandRecord.takeRefusal_namesWatch hk rfl hw).trans (if_pos ⟨rfl, ha⟩))
        (CommandRecord.detail_of_namesWatch hk rfl)
    · have hk : kindOf (commandRecordOf r.data).kind = some .nop := by rw [hk]; rfl
      exact taken (CommandUnit.take_nop hk)
    · obtain ⟨hk, hw, ha⟩ | hk | ⟨hk, hslot⟩ := hgood
      · obtain ⟨k, hkind, hn⟩ := kindOf_watchKind hk
        refine taken (CommandUnit.take_dispatched ?_ ?_)
        · refine (CommandRecord.takeRefusal_namesWatch hkind hn hw).trans (if_neg ?_)
          rintro ⟨rfl, hbad⟩
          exact hbad (ha ((kindOf_snapshot_iff hk).1 hkind))
        · rw [hkind]
          rintro ⟨⟩
          cases hn
      · obtain hk | hk := hk
        · have hk : kindOf (commandRecordOf r.data).kind = some .start := by rw [hk]; rfl
          exact taken (CommandUnit.take_dispatched (CommandRecord.takeRefusal_plain hk (.inr (.inl rfl))) (by simp [hk]))
        · have hk : kindOf (commandRecordOf r.data).kind = some .stop := by rw [hk]; rfl
          exact taken (CommandUnit.take_dispatched (CommandRecord.takeRefusal_plain hk (.inr (.inr rfl))) (by simp [hk]))
      · have hk : kindOf (commandRecordOf r.data).kind = some .cancel := by rw [hk]; rfl
        refine taken (CommandUnit.take_dispatched ((CommandRecord.takeRefusal_cancel hk).trans (if_neg ?_)) (by simp [hk]))
        rintro ⟨h4, hall⟩
        obtain hslot | hslot := hslot
        · exact absurd h4 (Nat.not_le.2 hslot)
        · exact hall hslot
  · refine ⟨((s.setEntry r.tag .free).withCmd { s.cmd with state := .idle, link := .none }).enterFaulted .cqRead, ?_, ?_,
      ?_⟩
    · refine congrArg _ ((State.takeResponse_of_active he).trans ?_)
      rw [herr, State.deliver, State.toCommand_failed (s := s.setEntry r.tag .free) hd hs]
      exact State.endPassage_enterFaulted _ _
    · refine State.entryReplaced_of_entries ?_
      rw [State.enterFaulted_eq]
      rfl
    · rw [State.enterFaulted_eq]
      exact ⟨rfl, rfl, rfl, rfl, rfl, rfl⟩
  · have hkind : (commandRecordOf record).kind = 0x01 := eq_of_beq hnop
    have hk : kindOf (commandRecordOf record).kind = some .nop := by rw [hkind]; rfl
    refine ⟨(s.setEntry tag .free).withCmd (s.cmd.take (commandRecordOf record)),
      congrArg _ (State.takeResponse_record (r := { tag := tag, answer := .ok, data := record }) hd he hs rfl),
      State.entryReplaced_of_entries rfl, ?_⟩
    rw [CommandUnit.take_nop hk]
    simp only [CommandUnit.completedWith, hkind]
    rw [← hcur]
    rfl
  · have hres := State.takeResponse_command_absorbed he habs
    refine ⟨(s.setEntry r.tag .free).withCmd { s.cmd with link := .none }, congrArg _ hres, fun hok => ?_,
      State.entryReplaced_of_entries rfl, rfl⟩
    have hsame : ({ tag := r.tag, answer := .ok, data := r.data } : Response) = r := by rw [← hok]
    exact congrArg _ ((congrArg s.takeResponse hsame).trans hres)

/-- Settles O45: the answer completes the SNAPSHOT, or is absorbed. -/
theorem snapshotWriteAnswered : Obligations.SnapshotWriteAnswered := by
  refine ⟨fun s r c size e hdis he => ?_, fun s r size e he habs => ?_⟩
  · obtain ⟨hd, hs, hcur, hkind⟩ := hdis
    have hres : s.takeResponse r = (s.setEntry r.tag .free).withCmd
        ({ s.cmd with snapshot := none, link := .none }.completedWith c
          (if r.answer = Answer.ok then CmdStatus.ok else CmdStatus.writeError) (some c.record.watchId)) := by
      rw [State.takeResponse_of_active he, State.deliver,
        State.toCommand_snapshot (s := s.setEntry r.tag .free) hd hs,
        ← CommandRecord.detail_of_namesWatch hkind rfl,
        ← CommandUnit.complete_eq_completedWith (u := { s.cmd with snapshot := none, link := .none }) hcur]
      refine (State.endPassage_of_enabled (by exact hd)).trans ?_
      cases r.answer <;> rfl
    exact ⟨_, congrArg Host.Outcome.next hres, State.entryReplaced_of_entries rfl, rfl⟩
  · exact ⟨(s.setEntry r.tag .free).withCmd { s.cmd with link := .none },
      congrArg _ (State.takeResponse_command_absorbed he habs), State.entryReplaced_of_entries rfl, rfl⟩

/-! ### The Setup Block read -/

theorem State.toControl_absorbed {s : State} (hd : s.ctl.device ≠ .starting) (ans : Answer) (data : ReadData) :
    s.toControl ans data = s.withCtl { s.ctl with setupRequest := .none } := by
  simp only [State.toControl, if_neg hd]

theorem State.toControl_failed {s : State} (hd : s.ctl.device = .starting) (data : ReadData) :
    s.toControl .error data = (s.withCtl { s.ctl with setupRequest := .none }).enterFaulted .setupRead := by
  simp only [State.toControl, if_pos hd]
  exact State.fatal_of_starting (by exact hd) _

theorem State.toControl_illegal {s : State} (hd : s.ctl.device = .starting) {data : ReadData}
    (h : ¬ (setupOf data).legal = true) :
    s.toControl .ok data = (s.withCtl { s.ctl with setupRequest := .none }).enterFaulted .setupInvalid := by
  simp only [State.toControl, if_pos hd, if_neg h]
  exact State.fatal_of_starting (by exact hd) _

theorem State.toControl_legal {s : State} (hd : s.ctl.device = .starting) {data : ReadData}
    (h : (setupOf data).legal = true) :
    s.toControl .ok data = (s.withCtl { s.ctl with setupRequest := .none }).enterEnabled (setupOf data) := by
  simp only [State.toControl, if_pos hd, if_pos h]

/-- Settles O51: a legal block is handed out, an illegal one or an ERROR is a fault, and a waiting passage absorbs. -/
theorem setupReadAnswered : Obligations.SetupReadAnswered := by
  refine ⟨fun s r size e hd he => ?_, fun s r size e he hwait => ?_⟩
  · have hres := State.takeResponse_of_active he
    have hstart : (s.setEntry r.tag .free).ctl.device = .starting := hd
    have fails {code : FaultCode} (h : (s.setEntry r.tag .free).toControl r.answer r.data =
        ((s.setEntry r.tag .free).withCtl { s.ctl with setupRequest := .none }).enterFaulted code) :
        ∃ t, exec (.setupReadResponse r) s = .next t ∧ s.EntryReplaced t r.tag .free ∧
          t.ctl = { s.ctl with device := .faulted, setupRequest := .none, faultCode := code, multi := false } ∧
          t.evt.interrupt = { s.evt.interrupt with fault := true } := by
      refine ⟨_, congrArg Host.Outcome.next
        (hres.trans ((congrArg State.endPassage h).trans (State.endPassage_enterFaulted _ _))), ?_, ?_⟩
      · refine State.entryReplaced_of_entries ?_
        rw [State.enterFaulted_eq]
        rfl
      · rw [State.enterFaulted_eq]
        exact ⟨rfl, rfl⟩
    have hlegal := (setupOf r.data).legal_iff
    simp only [aligned64_iff] at hlegal
    refine ⟨fun herr => fails ?_, fun hok hill => fails ?_, fun hok hleg => ?_⟩
    · rw [herr]; exact State.toControl_failed hstart _
    · rw [hok]; exact State.toControl_illegal hstart fun h => hill (hlegal.1 h)
    · have htaken := State.toControl_legal hstart (hlegal.2 hleg)
      rw [State.deliver, hok, htaken] at hres
      exact ⟨_, congrArg Host.Outcome.next (hres.trans (State.endPassage_of_enabled rfl)),
        State.entryReplaced_of_entries rfl, rfl⟩
  · obtain ⟨hd, -⟩ := id hwait
    have hd : s.ctl.device ≠ .starting := by obtain hd | hd := hd <;> simp [hd]
    refine ⟨(s.setEntry r.tag .free).withCtl { s.ctl with setupRequest := .none }, ?_,
      State.entryReplaced_of_entries rfl, rfl⟩
    refine congrArg _ ((State.takeResponse_of_active he).trans ?_)
    rw [State.deliver, State.toControl_absorbed (s := s.setEntry r.tag .free) hd]
    exact hwait.endPassage rfl

end Sys2Proof.Machine
end

/-! PROOFS. What the blocks do reads neither the queue of waiting commands nor the Request Table: the operations of the
blocks commute with a change of both (`State.remap`). -/

section
namespace Sys2Proof.Machine

/-- The state with the queue of waiting commands and the Request Table changed. -/
def State.remap (f : List Instr → List Instr) (g : Vector PortEntry 8 → Vector PortEntry 8) (s : State) : State :=
  { s with pending := f s.pending, port := { s.port with entries := g s.port.entries } }

section
variable (s : State) (f : List Instr → List Instr) (g : Vector PortEntry 8 → Vector PortEntry 8)

@[simp] theorem State.remap_resetAsserted : (s.remap f g).resetAsserted = s.resetAsserted := rfl
@[simp] theorem State.remap_tick : (s.remap f g).tick = s.tick := rfl
@[simp] theorem State.remap_ctl : (s.remap f g).ctl = s.ctl := rfl
@[simp] theorem State.remap_acq : (s.remap f g).acq = s.acq := rfl
@[simp] theorem State.remap_eng : (s.remap f g).eng = s.eng := rfl
@[simp] theorem State.remap_cap : (s.remap f g).cap = s.cap := rfl
@[simp] theorem State.remap_fetch : (s.remap f g).fetch = s.fetch := rfl
@[simp] theorem State.remap_cmd : (s.remap f g).cmd = s.cmd := rfl
@[simp] theorem State.remap_evt : (s.remap f g).evt = s.evt := rfl
@[simp] theorem State.remap_watch (w : WatchId) : (s.remap f g).watch w = s.watch w := rfl
@[simp] theorem State.remap_slot (i : SlotId) : (s.remap f g).slot i = s.slot i := rfl

@[simp] theorem State.withTick_remap (x : Tick) : (s.remap f g).withTick x = (s.withTick x).remap f g := rfl
@[simp] theorem State.withCtl_remap (x : Control) : (s.remap f g).withCtl x = (s.withCtl x).remap f g := rfl
@[simp] theorem State.withAcq_remap (x : Acquisition) : (s.remap f g).withAcq x = (s.withAcq x).remap f g := rfl
@[simp] theorem State.withEng_remap (x : WatchEngine) : (s.remap f g).withEng x = (s.withEng x).remap f g := rfl
@[simp] theorem State.withCap_remap (x : CaptureUnit) : (s.remap f g).withCap x = (s.withCap x).remap f g := rfl
@[simp] theorem State.withFetch_remap (x : Fetcher) : (s.remap f g).withFetch x = (s.withFetch x).remap f g := rfl
@[simp] theorem State.withCmd_remap (x : CommandUnit) : (s.remap f g).withCmd x = (s.withCmd x).remap f g := rfl
@[simp] theorem State.withEvt_remap (x : EventWriter) : (s.remap f g).withEvt x = (s.withEvt x).remap f g := rfl
@[simp] theorem State.setWatch_remap (w : WatchId) (x : Watch) :
    (s.remap f g).setWatch w x = (s.setWatch w x).remap f g := rfl
@[simp] theorem State.setSlot_remap (i : SlotId) (x : Slot) :
    (s.remap f g).setSlot i x = (s.setSlot i x).remap f g := rfl
@[simp] theorem State.watchDone_remap (w : WatchId) (r : EndReason) :
    (s.remap f g).watchDone w r = (s.watchDone w r).remap f g := rfl
@[simp] theorem State.complete_remap (st : CmdStatus) : (s.remap f g).complete st = (s.complete st).remap f g := rfl
@[simp] theorem State.setFault_remap : (s.remap f g).setFault = s.setFault.remap f g := rfl
@[simp] theorem State.takeStart_remap : (s.remap f g).takeStart = s.takeStart.remap f g := rfl
@[simp] theorem State.enterStarting_remap : (s.remap f g).enterStarting = s.enterStarting.remap f g := rfl
@[simp] theorem State.enterEnabled_remap (b : Setup) :
    (s.remap f g).enterEnabled b = (s.enterEnabled b).remap f g := rfl
@[simp] theorem State.disabledValues_remap : (s.remap f g).disabledValues = s.disabledValues.remap f g := rfl
@[simp] theorem State.softResetValues_remap : (s.remap f g).softResetValues = s.softResetValues.remap f g := rfl
@[simp] theorem State.reportChosen_remap (w : WatchId) :
    (s.remap f g).reportChosen w = (s.reportChosen w).remap f g := rfl
@[simp] theorem State.arrive_remap (word : Word) : (s.remap f g).arrive word = (s.arrive word).remap f g := rfl
@[simp] theorem State.snapshotWritten_remap (ans : Answer) :
    (s.remap f g).snapshotWritten ans = (s.snapshotWritten ans).remap f g := rfl

@[simp] theorem State.dispatched_remap (k : CommandKind) : (s.remap f g).dispatched k = s.dispatched k := rfl
@[simp] theorem State.dispatchedWatch_remap (k : CommandKind) :
    (s.remap f g).dispatchedWatch k = s.dispatchedWatch k := rfl
@[simp] theorem State.startReady_remap : (s.remap f g).startReady = s.startReady := rfl
@[simp] theorem State.offer_remap : (s.remap f g).offer = s.offer := rfl
@[simp] theorem State.mayChoose_remap : (s.remap f g).mayChoose = s.mayChoose := rfl
@[simp] theorem State.acceptsEdge_remap : (s.remap f g).acceptsEdge = s.acceptsEdge := rfl
@[simp] theorem State.haltRequest_remap (fired : List WatchId) :
    (s.remap f g).haltRequest fired = s.haltRequest fired := rfl

@[simp] theorem State.checkBufferFetch_remap : (s.remap f g).checkBufferFetch = s.checkBufferFetch.remap f g := by
  unfold State.checkBufferFetch
  rw [State.remap_ctl, State.remap_fetch, State.remap_cap]
  split <;> rfl

@[simp] theorem State.checkCommandFetch_remap : (s.remap f g).checkCommandFetch = s.checkCommandFetch.remap f g := by
  unfold State.checkCommandFetch
  rw [State.remap_ctl, State.remap_cmd]
  split <;> rfl

@[simp] theorem State.checkStart_remap : (s.remap f g).checkStart = s.checkStart.remap f g := by
  unfold State.checkStart
  rw [State.startReady_remap]
  split <;> rfl

@[simp] theorem State.holdStart_remap : (s.remap f g).holdStart = s.holdStart.remap f g := by
  unfold State.holdStart
  rw [State.dispatched_remap, State.remap_acq]
  split <;> rfl

/-! ### Evaluations -/

theorem State.requestCapture_remap (w : WatchId) (trigger : SampleNo) (pre post : Nat) :
    (s.remap f g).requestCapture w trigger pre post = (s.requestCapture w trigger pre post).map (State.remap f g) := by
  unfold State.requestCapture
  rw [State.remap_ctl, State.remap_cap, State.remap_acq]
  split
  · split
    · dsimp only
      rw [State.withCap_remap, State.checkBufferFetch_remap]
      rfl
    · rfl
  · rfl

@[simp] theorem State.makeCaptureRequests_remap (p : PresentedSample) (ws : List WatchId) :
    State.makeCaptureRequests p ws (s.remap f g) = (State.makeCaptureRequests p ws s).remap f g := by
  induction ws generalizing s with
  | nil => rfl
  | cons w rest ih =>
    simp only [State.makeCaptureRequests]
    rw [← ih]
    congr 1
    rw [State.remap_watch, State.requestCapture_remap]
    split
    · cases s.requestCapture w p.number (s.watch w).config.pre (s.watch w).config.post <;> rfl
    · rfl

@[simp] theorem State.closeSample_remap (halt : Option WatchId) (n : SampleNo) :
    (s.remap f g).closeSample halt n = (s.closeSample halt n).remap f g := by
  have closed : ((s.remap f g).withEng { s.eng with presented := none, begun := false }).checkStart =
      ((s.withEng { s.eng with presented := none, begun := false }).checkStart).remap f g := by
    rw [State.withEng_remap, State.checkStart_remap]
  unfold State.closeSample
  cases halt with
  | none => exact closed
  | some w =>
    rw [State.remap_acq]
    cases s.acq.state with
    | idle => exact closed
    | running => rfl

@[simp] theorem State.evaluateSample_remap (p : PresentedSample) :
    (s.remap f g).evaluateSample p = (s.evaluateSample p).remap f g := by
  simp only [State.evaluateSample, State.remap_eng, State.withEng_remap, State.makeCaptureRequests_remap,
    State.remap_tick, State.haltRequest_remap, State.closeSample_remap]

@[simp] theorem State.endDueEvaluation_remap : (s.remap f g).endDueEvaluation = s.endDueEvaluation.remap f g := by
  unfold State.endDueEvaluation
  rw [State.remap_eng, State.remap_ctl, State.remap_tick]
  split
  · rfl
  · split
    · split <;> simp
    · rfl

@[simp] theorem State.closePresented_remap : (s.remap f g).closePresented = s.closePresented.remap f g := by
  unfold State.closePresented
  rw [State.remap_eng]
  split
  · rfl
  · split <;> simp

@[simp] theorem State.stopBlocks_remap (d : DeviceState) :
    (s.remap f g).stopBlocks d = (s.stopBlocks d).remap f g := by
  rw [State.stopBlocks, State.stopBlocks, ← State.closePresented_remap]
  rfl

@[simp] theorem State.enterFaulted_remap (code : FaultCode) :
    (s.remap f g).enterFaulted code = (s.enterFaulted code).remap f g := by
  simp only [State.enterFaulted, State.stopBlocks_remap, State.setFault_remap, State.withCtl_remap, State.remap_ctl]

@[simp] theorem State.fatal_remap (code : FaultCode) : (s.remap f g).fatal code = (s.fatal code).remap f g := by
  unfold State.fatal
  rw [State.remap_ctl]
  cases s.ctl.device with
  | starting | enabled => exact s.enterFaulted_remap f g code
  | faulted | stopping | resetting | disabled => rfl

/-! ### Choices -/

@[simp] theorem State.captureDoneChosen_remap (i : SlotId) :
    (s.remap f g).captureDoneChosen i = (s.captureDoneChosen i).remap f g := by
  unfold State.captureDoneChosen
  rw [State.remap_cap]
  split
  · rfl
  · split
    · split <;> rfl
    · rfl

@[simp] theorem State.itemChosen_remap (c : EventContent) :
    (s.remap f g).itemChosen c = (s.itemChosen c).remap f g := by
  cases c <;> simp [State.itemChosen]

@[simp] theorem State.choose_remap (c : EventContent) : (s.remap f g).choose c = (s.choose c).remap f g := by
  unfold State.choose
  rw [State.itemChosen_remap]
  rfl

/-! ### Answers at their owners -/

theorem State.toControl_remap (ans : Answer) (data : ReadData) :
    (s.remap f g).toControl ans data = (s.toControl ans data).remap f g := by
  simp only [State.toControl, State.remap_ctl, State.withCtl_remap, State.fatal_remap, State.enterEnabled_remap]
  by_cases hd : s.ctl.device = .starting
  · rw [if_pos hd, if_pos hd]
    cases ans with
    | error => rfl
    | ok => exact (apply_ite (State.remap f g) _ _ _).symm
  · rw [if_neg hd, if_neg hd]

theorem State.toCommand_remap (ans : Answer) (data : ReadData) :
    (s.remap f g).toCommand ans data = (s.toCommand ans data).remap f g := by
  have read : (s.remap f g).cqRead ans data = (s.cqRead ans data).remap f g := by
    cases ans with
    | ok => rfl
    | error => simp only [State.cqRead, State.remap_cmd, State.withCmd_remap, State.fatal_remap]
  simp only [State.toCommand, State.remap_ctl, State.remap_cmd, read]
  by_cases hd : s.ctl.device = .enabled
  · rw [if_pos hd, if_pos hd]
    cases s.cmd.state <;> rfl
  · rw [if_neg hd, if_neg hd]
    rfl

theorem State.bqRead_remap (b : Batch) (ans : Answer) (data : ReadData) :
    (s.remap f g).bqRead b ans data = (s.bqRead b ans data).remap f g := by
  cases ans with
  | ok =>
    simp only [State.bqRead, State.remap_cap, State.remap_fetch, State.withCap_remap, State.withFetch_remap,
      State.checkBufferFetch_remap]
  | error => simp only [State.bqRead, State.remap_fetch, State.withFetch_remap, State.fatal_remap]

theorem State.toFetcher_remap (ans : Answer) (data : ReadData) :
    (s.remap f g).toFetcher ans data = (s.toFetcher ans data).remap f g := by
  unfold State.toFetcher
  rw [State.remap_ctl, State.remap_fetch]
  split
  · exact s.bqRead_remap f g _ ans data
  · rfl

theorem State.cmdDoneWritten_remap : (s.remap f g).cmdDoneWritten = s.cmdDoneWritten.remap f g := by
  unfold State.cmdDoneWritten
  rw [← State.checkCommandFetch_remap, State.remap_cmd]
  split <;> rfl

theorem State.eqWritten_remap (ans : Answer) : (s.remap f g).eqWritten ans = (s.eqWritten ans).remap f g := by
  cases ans with
  | error => simp only [State.eqWritten, State.remap_evt, State.withEvt_remap, State.fatal_remap]
  | ok =>
    simp only [State.eqWritten, State.remap_evt, State.remap_tick, State.withEvt_remap, State.cmdDoneWritten_remap]
    exact (apply_ite (State.remap f g) _ _ _).symm

theorem State.toWriter_remap (ans : Answer) : (s.remap f g).toWriter ans = (s.toWriter ans).remap f g := by
  simp only [State.toWriter, State.remap_ctl, State.remap_evt, State.withEvt_remap, State.fatal_remap,
    State.eqWritten_remap]
  cases s.ctl.device with
  | faulted => cases ans <;> rfl
  | enabled | disabled | starting | stopping | resetting => rfl

theorem State.toSlot_remap (i : SlotId) (tag : Tag) (ans : Answer) :
    (s.remap f g).toSlot i tag ans = (s.toSlot i tag ans).remap f g := by
  simp only [State.toSlot, State.remap_ctl, State.remap_slot, State.remap_acq, State.setSlot_remap,
    State.checkStart_remap]
  cases s.ctl.device <;> rfl

/-- An answer's delivery reads neither the queue nor the Request Table. -/
@[simp] theorem State.deliver_remap (q : Requester) (tag : Tag) (ans : Answer) (data : ReadData) :
    (s.remap f g).deliver q tag ans data = (s.deliver q tag ans data).remap f g := by
  cases q with
  | control => exact s.toControl_remap f g ans data
  | command => exact s.toCommand_remap f g ans data
  | fetcher => exact s.toFetcher_remap f g ans data
  | writer => exact s.toWriter_remap f g ans
  | slot i => exact s.toSlot_remap f g i tag ans

/-- Whether a passage ends depends on the Request Table by its ACTIVE entries alone. -/
theorem State.endPassage_remap
    (h : ({ s.port with entries := g s.port.entries } : MemoryPort).someActive = s.port.someActive) :
    (s.remap f g).endPassage = s.endPassage.remap f g := by
  have same : (s.remap f g).port.someActive = s.port.someActive := h
  unfold State.endPassage
  rw [same, State.remap_ctl]
  split
  · rfl
  · cases s.ctl.device <;> rfl

end

end Sys2Proof.Machine
end

/-! PROOFS. The Memory Port (chapter 8): grants (O47), the requests of the blocks (O48), and ended entries (O49). -/

section
namespace Sys2Proof.Machine

/-! ### The rotating order -/

theorem mem_rotation (pointer q : Requester) : q ∈ rotation pointer := by
  have hall : q ∈ requesterOrder := by
    cases q with
    | slot i => fin_cases i <;> decide
    | _ => decide
  rw [← List.take_append_drop (pointer.place + 1) requesterOrder, List.mem_append] at hall
  exact List.mem_append.2 hall.symm

/-- Each requester of the rotating order stands at its distance behind the pointer (R151). -/
theorem rotation_distances (pointer : Requester) :
    (rotation pointer).map (fun q => pointer.distanceFrom q) = List.range 8 := by
  cases pointer with
  | slot i => fin_cases i <;> decide
  | _ => decide

/-- The first requester of the rotating order that qualifies is the one at the least distance (R151). -/
theorem find?_rotation {pointer q : Requester} {p : Requester → Bool} (hq : p q = true)
    (hleast : ∀ r, p r = true → pointer.distanceFrom q ≤ pointer.distanceFrom r) :
    (rotation pointer).find? p = some q := by
  have hlength : (rotation pointer).length = 8 := by
    simpa using congrArg List.length (rotation_distances pointer)
  have hdist (i : Nat) (hi : i < (rotation pointer).length) : pointer.distanceFrom (rotation pointer)[i] = i := by
    have := congrArg (fun l => l[i]?) (rotation_distances pointer)
    simpa [hi, hlength ▸ hi] using this
  obtain ⟨i, hi, he⟩ := List.getElem_of_mem (mem_rotation pointer q)
  rw [List.find?_eq_some_iff_getElem]
  refine ⟨hq, i, hi, he, fun j hj => ?_⟩
  have hj' : j < (rotation pointer).length := hj.trans hi
  rw [Bool.not_eq_true', ← Bool.not_eq_true]
  intro hp
  have := hleast _ hp
  rw [hdist j hj', ← he, hdist i hi] at this
  omega

/-! ### A grant -/

/-- A requester that can be granted, at the least distance behind the pointer, is the next (R151). -/
theorem State.nextRequester_of_eligible {s : State} {q : Requester} (hq : s.Eligible q)
    (hleast : ∀ p, s.Eligible p → s.port.grantPointer.distanceFrom q ≤ s.port.grantPointer.distanceFrom p) :
    s.nextRequester = some q :=
  find?_rotation (by simpa using hq) fun r hr => hleast r (by simpa using hr)

theorem State.nextRequester_eq_none {s : State} (h : ∀ q, ¬ s.Eligible q) : s.nextRequester = none :=
  List.find?_eq_none.2 fun q _ hq => h q (by simpa using hq)

/-- The FREE entry with the lowest tag is granted (R151). -/
theorem MemoryPort.freeTag_of_lowest {m : MemoryPort} {tag : Tag} (h : tget m.entries tag = .free)
    (hlow : ∀ u, u < tag → tget m.entries u ≠ .free) : m.freeTag = some tag :=
  find?_finRange (by simp [h]) fun j hj => by simpa using hlow j hj

theorem exec_grant_of_granted {s : State} {q : Requester} {tag : Tag}
    (hd : s.ctl.device = .starting ∨ s.ctl.device = .enabled) (hq : s.nextRequester = some q)
    (htag : s.port.freeTag = some tag) : exec .grant s = .next (s.issueGrant q tag) := by
  simp only [exec, execGrant, State.makeGrant, if_pos hd, hq, htag]

/-! ### ACTIVE entries of one requester -/

/-- 1 for an entry ACTIVE for this requester, and 0 for any other. -/
def PortEntry.ownedCount (q : Requester) (x : PortEntry) : Nat := if x.ownedBy q = true then 1 else 0

/-- The count of ACTIVE entries, as a sum over the tags. -/
theorem MemoryPort.activeCount_eq_sum (m : MemoryPort) (q : Requester) :
    m.activeCount q = ∑ t : Tag, (tget m.entries t).ownedCount q := by
  have count (l : List Tag) : (l.filter fun t => (tget m.entries t).ownedBy q).length =
      (l.map fun t => (tget m.entries t).ownedCount q).sum := by
    induction l with
    | nil => rfl
    | cons t l ih =>
      rw [List.map_cons, List.sum_cons, ← ih, List.filter_cons, PortEntry.ownedCount]
      split
      · rw [List.length_cons, Nat.add_comm]
      · rw [Nat.zero_add]
  rw [MemoryPort.activeCount, count, Fin.sum_univ_def]

/-- How many ACTIVE entries a requester has after one entry is replaced (R151). -/
theorem MemoryPort.activeCount_tset {m m' : MemoryPort} {tag : Tag} {x : PortEntry} (q : Requester)
    (hm : m'.entries = tset m.entries tag x) :
    m'.activeCount q + (tget m.entries tag).ownedCount q = m.activeCount q + x.ownedCount q := by
  rw [MemoryPort.activeCount_eq_sum, MemoryPort.activeCount_eq_sum, hm,
    ← Finset.add_sum_erase Finset.univ (fun t => (tget m.entries t).ownedCount q) (Finset.mem_univ tag),
    ← Finset.add_sum_erase Finset.univ (fun t => (tget (tset m.entries tag x) t).ownedCount q) (Finset.mem_univ tag)]
  have hothers : ∑ t ∈ Finset.univ.erase tag, (tget (tset m.entries tag x) t).ownedCount q =
      ∑ t ∈ Finset.univ.erase tag, (tget m.entries t).ownedCount q :=
    Finset.sum_congr rfl fun t ht => by rw [tget_tset, if_neg (Finset.ne_of_mem_erase ht)]
  rw [hothers, tget_tset_same]
  ring

@[simp] theorem PortEntry.ownedCount_free (q : Requester) : PortEntry.free.ownedCount q = 0 := rfl

@[simp] theorem PortEntry.ownedCount_stale (q : Requester) (size : Nat) (e : Option Tick) :
    (PortEntry.stale size e).ownedCount q = 0 := rfl

theorem PortEntry.ownedCount_active (o q : Requester) (size : Nat) (e : Option Tick) :
    (PortEntry.active o size e).ownedCount q = if o = q then 1 else 0 := by
  simp [PortEntry.ownedCount, PortEntry.ownedBy]

/-! ### GRANT -/

theorem CommandUnit.complete_link (u : CommandUnit) (st : CmdStatus) : (u.complete st).link = u.link := by
  unfold CommandUnit.complete
  split <;> rfl

/-- The check of a held START leaves every standing request. -/
theorem State.checkStart_standing (s : State) (q : Requester) : s.checkStart.standing q = s.standing q := by
  obtain ⟨-, h⟩ | ⟨-, h⟩ := s.checkStart_cases
  · rw [h]
    cases q with
    | command => exact congrArg (· == LinkState.standing) (s.cmd.complete_link .ok)
    | _ => rfl
  · rw [h]

/-- A grant leaves every other requester's standing request (R152). -/
theorem State.issueGrant_standing (s : State) {p q : Requester} (hne : p ≠ q) (tag : Tag) :
    (s.issueGrant q tag).standing p = s.standing p := by
  have hport (u : State) (m : MemoryPort) : (u.withPort m).standing p = u.standing p := by cases p <;> rfl
  rw [State.issueGrant_frame, hport]
  cases q with
  | slot i =>
    refine (State.checkStart_standing _ p).trans ?_
    cases p with
    | slot j =>
      have hj : j ≠ i := fun e => hne (congrArg Requester.slot e)
      exact congrArg Slot.requestStanding ((s.setSlot_slot i j _).trans (if_neg hj))
    | _ => rfl
  | control =>
    cases p with
    | control => exact absurd rfl hne
    | _ => rfl
  | command =>
    cases p with
    | command => exact absurd rfl hne
    | _ => rfl
  | fetcher =>
    cases p with
    | fetcher => exact absurd rfl hne
    | _ => rfl
  | writer =>
    cases p with
    | writer => exact absurd rfl hne
    | _ => rfl

theorem State.formRequest_tag (s : State) (tag : Tag) (q : Requester) : (s.formRequest tag q).tag = tag := by
  unfold State.formRequest
  cases q with
  | command => dsimp only; split <;> rfl
  | writer => dsimp only; split <;> rfl
  | _ => rfl

/-- Settles O47: the guards of a grant choose the requester and the tag, and the request is issued with the entry. -/
theorem grantMade : Obligations.GrantMade := by
  refine fun s => ⟨fun hno => ?_, fun q tag hd hq hleast hfree hlow => ?_⟩
  · simp only [exec, execGrant, State.makeGrant]
    obtain hno | hno | hno := hno
    · rw [if_neg hno]
    · rw [State.nextRequester_eq_none hno]
      split <;> rfl
    · rw [MemoryPort.freeTag_eq_none.2 hno]
      split
      · cases s.nextRequester <;> rfl
      · rfl
  · have hnext := State.nextRequester_of_eligible hq hleast
    have htag := MemoryPort.freeTag_of_lowest hfree hlow
    refine ⟨hnext, htag, s.issueGrant q tag, s.formRequest tag q, exec_grant_of_granted hd hnext htag, rfl, ?_, rfl,
      rfl, rfl, State.entryReplaced_of_entries rfl, ?_, fun p hp => ⟨?_, s.issueGrant_standing hp tag⟩⟩
    · exact s.formRequest_tag tag q
    · have := MemoryPort.activeCount_tset (m := s.port) (m' := (s.issueGrant q tag).port) q (by rfl)
      rw [show tget s.port.entries tag = .free from hfree] at this
      simpa [PortEntry.ownedCount_active] using this
    · have := MemoryPort.activeCount_tset (m := s.port) (m' := (s.issueGrant q tag).port) p (by rfl)
      rw [show tget s.port.entries tag = .free from hfree] at this
      simpa [PortEntry.ownedCount_active, hp.symm] using this

/-! ### The requests of the blocks -/

theorem leBytes_length (n v : Nat) : (leBytes n v).length = n := by
  induction n generalizing v with
  | zero => rfl
  | succ n ih => rw [leBytes, List.length_cons, ih]

theorem bytes48_length (x : BitVec 48) : (bytes48 x).length = 6 := leBytes_length _ _

theorem optBytes48_length (x : Option (BitVec 48)) : (optBytes48 x).length = 6 := bytes48_length _

theorem reserved_length (n : Nat) : (reserved n).length = n := List.length_replicate

/-- A watch snapshot is 64 bytes long (Table 10-12). -/
theorem SnapshotContent.recordBytes_length (c : SnapshotContent) : c.recordBytes.length = 64 := by
  unfold SnapshotContent.recordBytes
  repeat rw [List.length_append]
  simp only [leBytes_length, reserved_length, optBytes48_length]

/-- An event record is 32 bytes long (Table 10-5). -/
theorem InFlight.recordBytes_length (f : InFlight) : f.recordBytes.length = 32 := by
  unfold InFlight.recordBytes EventContent.body
  cases f.content <;>
    simp only [List.length_append, leBytes_length, reserved_length, optBytes48_length, bytes48_length,
      List.length_singleton]

/-- Settles O48: the request of each block, and what the block is told at its grant. -/
theorem requestsFormed : Obligations.RequestsFormed := by
  intro s tag hd htag
  refine ⟨fun hq => ?_, fun hsnap hq => ?_, fun content c hsnap hcur => ⟨content.recordBytes_length, fun hq => ?_⟩,
    fun hq => ?_, fun f hf => ⟨f.recordBytes_length, fun hq => ?_⟩⟩
  · exact ⟨_, exec_grant_of_granted hd hq htag, rfl, rfl⟩
  · refine ⟨_, exec_grant_of_granted hd hq htag, ?_, rfl⟩
    rw [State.issueGrant_frame]
    simp only [State.formRequest, hsnap]
    rfl
  · refine ⟨_, exec_grant_of_granted hd hq htag, ?_, rfl⟩
    rw [State.issueGrant_frame]
    simp only [State.formRequest, hsnap, hcur]
    rfl
  · exact ⟨_, exec_grant_of_granted hd hq htag, rfl, rfl⟩
  · refine ⟨_, exec_grant_of_granted hd hq htag, ?_, rfl⟩
    rw [State.issueGrant_frame]
    simp only [State.formRequest, hf]
    rfl

/-! ### Ended entries -/

theorem tset_tset {α : Type} {n : Nat} (v : Vector α n) (i : Fin n) (x y : α) : tset (tset v i x) i y = tset v i y :=
  table_ext fun j => by
    rw [tget_tset, tget_tset, tget_tset]
    split <;> rfl

/-- An answer's delivery leaves the Request Table. -/
theorem State.deliver_entries (s : State) (q : Requester) (tag : Tag) (ans : Answer) (data : ReadData) :
    (s.deliver q tag ans data).port.entries = s.port.entries := by
  have h : s.deliver q tag ans data = (s.deliver q tag ans data).remap id (fun _ => s.port.entries) :=
    s.deliver_remap id (fun _ => s.port.entries) q tag ans data
  rw [h]
  rfl

/-- An inactive entry put for another does not decide whether one is ACTIVE. -/
theorem MemoryPort.someActive_tset {m : MemoryPort} {tag : Tag} {x : PortEntry} (hx : x.isActive = false)
    (h : (tget m.entries tag).isActive = false) :
    ({ m with entries := tset m.entries tag x } : MemoryPort).someActive = m.someActive := by
  refine congrArg (List.any (List.finRange 8)) (funext fun t => ?_)
  rw [tget_tset]
  split
  next ht => rw [ht, h, hx]
  next => rfl

/-- The expiry of an entry does what an ERROR response does, but that it leaves the entry STALE (R157). -/
theorem State.endPassage_deliver_stale (s : State) (q : Requester) (tag : Tag) (size : Nat) (e : Option Tick) :
    ((s.setEntry tag (.stale size e)).deliver q tag .error 0).endPassage =
      (((s.setEntry tag .free).deliver q tag .error 0).endPassage).remap id
        (fun es => tset es tag (.stale size e)) := by
  have hstale : s.setEntry tag (.stale size e) =
      (s.setEntry tag .free).remap id (fun es => tset es tag (.stale size e)) :=
    congrArg (fun es => s.withPort { s.port with entries := es }) (tset_tset s.port.entries tag _ _).symm
  have hfree : tget ((s.setEntry tag .free).deliver q tag .error 0).port.entries tag = .free := by
    rw [State.deliver_entries]
    exact tget_tset_same _ _ _
  rw [hstale, State.deliver_remap, State.endPassage_remap]
  exact MemoryPort.someActive_tset rfl (by rw [hfree]; rfl)

/-- Settles O49: an ended entry is decided by its tag alone, and an expiry delivers what an ERROR response does. -/
theorem entryEnded : Obligations.EntryEnded := by
  refine ⟨fun s r => ⟨fun size e he => ?_, fun he => ?_, rfl, rfl, rfl, rfl, rfl, rfl⟩, fun s tag =>
    ⟨fun q size e he hdue => ?_, fun hno => ?_⟩⟩
  · refine ⟨s.setEntry r.tag .free, ?_, State.entryReplaced_of_entries rfl, rfl⟩
    refine congrArg Host.Outcome.next ?_
    simp only [State.takeResponse, he]
  · refine congrArg Host.Outcome.next ?_
    simp only [State.takeResponse, he]
  · have hexpired : s.takeExpiry tag = ((s.setEntry tag (.stale size (some e))).deliver q tag .error 0).endPassage := by
      simp only [State.takeExpiry, he]
      exact if_pos (decide_eq_true hdue)
    rw [State.endPassage_deliver_stale] at hexpired
    have hanswered : s.takeResponse { tag := tag, answer := .error, data := 0 } =
        ((s.setEntry tag .free).deliver q tag .error 0).endPassage := by
      simp only [State.takeResponse, he]
    have hfree : (((s.setEntry tag .free).deliver q tag .error 0).endPassage).entry tag = .free := by
      rw [State.endPassage_entry, State.entry, State.deliver_entries]
      exact tget_tset_same _ _ _
    rw [← hanswered] at hexpired hfree
    refine ⟨_, _, congrArg Host.Outcome.next hexpired, rfl, tget_tset_same _ _ _, hfree, rfl, fun d => ?_⟩
    refine congrArg Host.Outcome.next ?_
    generalize s.takeResponse { tag := tag, answer := .error, data := 0 } = u at hfree
    have hstale : (u.remap id fun es => tset es tag (.stale size (some e))).entry tag = .stale size (some e) :=
      tget_tset_same _ _ _
    simp only [State.takeResponse, hstale]
    refine congrArg (fun es => u.withPort { u.port with entries := es }) ?_
    calc tset (tset u.port.entries tag (.stale size (some e))) tag .free = tset u.port.entries tag .free := tset_tset _ _ _ _
      _ = tset u.port.entries tag (tget u.port.entries tag) := by rw [show tget u.port.entries tag = .free from hfree]
      _ = u.port.entries := tset_tget _ _
  · refine congrArg Host.Outcome.next ?_
    obtain ⟨q, size, e, he, hr, -⟩ | ⟨-, h⟩ := s.takeExpiry_cases tag
    · have := hno q size e he
      simp only [reached, decide_eq_true_eq] at hr
      omega
    · exact h

end Sys2Proof.Machine
end

/-! PROOFS. The bursts of the Capture Slots (chapter 4): the grant (O26) and the answer (O27). -/

section
namespace Sys2Proof.Machine

/-! ### What a burst holds -/

theorem captureEntryBytes_length (k : SampleNo) (trigger : Bool) (e : RingEntry) :
    (captureEntryBytes k trigger e).length = 16 := by
  simp only [captureEntryBytes, List.length_append, bytes48_length, leBytes_length, reserved_length]

/-- The entries of a burst stand one behind the other, 16 bytes each (R79). -/
theorem Slot.burstBytes_entry (a : Acquisition) (sl : Slot) {n j : Nat} (h : j < n) (k : SampleNo) :
    ((sl.burstBytes a n k).drop (16 * j)).take 16 =
      captureEntryBytes (k + BitVec.ofNat 48 j) (k + BitVec.ofNat 48 j == sl.trigger)
        (a.entryOf (k + BitVec.ofNat 48 j)) := by
  induction n generalizing j k with
  | zero => exact absurd h (Nat.not_lt_zero j)
  | succ n ih =>
    have hlen := captureEntryBytes_length k (k == sl.trigger) (a.entryOf k)
    rw [Slot.burstBytes]
    cases j with
    | zero =>
      rw [Nat.mul_zero, List.drop_zero, List.take_append_of_le_length hlen.ge, List.take_of_length_le hlen.le,
        BitVec.add_zero]
    | succ j =>
      have hk : k + BitVec.ofNat 48 (j + 1) = k + 1 + BitVec.ofNat 48 j := by
        rw [Nat.add_comm j 1, ← BitVec.ofNat_add_ofNat, BitVec.add_assoc]
        rfl
      rw [hk, ← ih (by omega) (k + 1), show 16 * (j + 1) = 16 + 16 * j by omega, ← List.drop_drop,
        List.drop_left' hlen]

/-- A present run never reaches beyond the window end (R76). -/
theorem Slot.runTo_le (sl : Slot) (newest : Option SampleNo) :
    sl.runTo newest ≤ sl.pos sl.windowEnd + 1 - sl.pos sl.nextToCopy := by
  cases newest with
  | none => exact Nat.zero_le _
  | some n =>
    simp only [Slot.runTo]
    omega

/-- A window position moves with its sample, as long as it does not come round. -/
theorem Slot.pos_add (sl : Slot) {k : SampleNo} {n : Nat} (h : sl.pos k + n < 2 ^ 48) :
    sl.pos (k + BitVec.ofNat 48 n) = sl.pos k + n := by
  have hn : n < 2 ^ 48 := by omega
  have heq : k + BitVec.ofNat 48 n - sl.windowStart = k - sl.windowStart + BitVec.ofNat 48 n := by
    simp only [BitVec.sub_eq_add_neg, BitVec.add_assoc, BitVec.add_comm (BitVec.ofNat 48 n)]
  unfold Slot.pos at *
  rw [heq, BitVec.toNat_add, BitVec.toNat_ofNat, Nat.mod_eq_of_lt hn, Nat.mod_eq_of_lt h]

/-! ### The grant of a burst -/

/-- The slot with a burst of `n` entries sent under a tag (R78, R79). -/
def Slot.sent (tag : Tag) (n : Nat) (sl : Slot) : Slot :=
  { sl with
    nextToCopy := sl.nextToCopy + BitVec.ofNat 48 n
    outstanding := sl.outstanding + 1
    bursts := sl.bursts ++ [{ count := n, answer := .waiting, tag := tag }]
    requestStanding := false }

theorem Slot.burstLength_eq (a : Acquisition) (sl : Slot) : sl.burstLength a = min 16 (sl.runTo a.newest) := by
  rw [Slot.burstLength, Slot.presentRun_eq_runTo]

/-- A burst advances next-to-copy by its entries, at most to the position behind the window end. -/
theorem Slot.sent_pos {sl : Slot} {newest : Option SampleNo} {n : Nat} (hs : sl.Sound) (hf : sl.state = .filling)
    (hn : n ≤ sl.runTo newest) (tag : Tag) :
    (sl.sent tag n).pos (sl.sent tag n).nextToCopy = sl.pos sl.nextToCopy + n ∧
      sl.pos sl.nextToCopy + n ≤ sl.pos sl.windowEnd + 1 ∧ sl.pos sl.windowEnd < sl.capacity := by
  obtain ⟨-, hbuf, -, -, hfill, -, -⟩ := hs
  obtain ⟨-, hcap, hshort, -, -⟩ := hbuf (by simp [hf])
  obtain ⟨hnext, -, -⟩ := hfill hf
  have hrun := sl.runTo_le newest
  have hle : sl.pos sl.nextToCopy + n ≤ sl.pos sl.windowEnd + 1 := by omega
  exact ⟨sl.pos_add (by omega), hle, hcap⟩

/-- The slot after a grant, by whether the burst holds the last entry of its window (R78, R85). -/
theorem Slot.onGrant_cases {a : Acquisition} {sl : Slot} (hs : sl.Sound) (hf : sl.state = .filling) (tag : Tag) :
    let n := min 16 (sl.runTo a.newest)
    (sl.pos sl.nextToCopy + n = sl.pos sl.windowEnd + 1 ∧
      sl.onGrant a tag =
        { sl.sent tag n with
          state := .closing, status := some (sl.status.getD (if sl.clipped then .clipped else .complete)) }) ∨
    (sl.pos sl.nextToCopy + n ≤ sl.pos sl.windowEnd ∧ sl.onGrant a tag = (sl.sent tag n).checkRequest a) := by
  intro n
  obtain ⟨hpos, hle, -⟩ := Slot.sent_pos (n := n) (newest := a.newest) hs hf (Nat.min_le_right _ _) tag
  have hgrant : sl.onGrant a tag =
      if (sl.sent tag n).pos (sl.sent tag n).windowEnd < (sl.sent tag n).pos (sl.sent tag n).nextToCopy then
        (sl.sent tag n).close (if sl.clipped then .clipped else .complete)
      else (sl.sent tag n).checkRequest a := by
    simp only [Slot.onGrant, Slot.burstLength_eq]
    rfl
  rw [hpos, show (sl.sent tag n).pos (sl.sent tag n).windowEnd = sl.pos sl.windowEnd from rfl] at hgrant
  by_cases hlast : sl.pos sl.windowEnd < sl.pos sl.nextToCopy + n
  · rw [if_pos hlast, Slot.close_eq] at hgrant
    exact .inl ⟨by omega, hgrant⟩
  · rw [if_neg hlast] at hgrant
    exact .inr ⟨by omega, hgrant⟩

/-- Settles O26: the burst is the present run up to 16 entries, and the slot closes with the last entry of its window. -/
theorem burstGranted : Obligations.BurstGranted := by
  intro s i tag hd hq htag hs sl n sent
  have hs : sl.Sound := hs
  have hstanding : sl.requestStanding = true := (State.nextRequester_eligible hq).1
  have hf : sl.state = .filling := (hs.2.2.2.1 hstanding).1
  have hn : n ≤ sl.runTo s.acq.newest := Nat.min_le_right _ _
  obtain ⟨hpos, hle, hcap⟩ := Slot.sent_pos hs hf hn tag
  have hslot (m : MemoryPort) : ((s.setSlot i (sl.onGrant s.acq tag)).withPort m).slot i = sl.onGrant s.acq tag :=
    s.setSlot_slot_same i _
  refine ⟨fun hc => ?_, (s.setSlot i (sl.onGrant s.acq tag)).withPort (s.issueGrant (.slot i) tag).port,
    sl.burstBytes s.acq n sl.nextToCopy,
    (exec_grant_of_granted (.inr hd) hq htag).trans (congrArg Host.Outcome.next (s.issueGrant_slot i tag)), rfl, ?_,
    sl.burstBytes_length s.acq n sl.nextToCopy, fun j hj => ?_, fun j hj => (s.setSlot_slot i j _).trans (if_neg hj),
    hpos.trans_le (hle.trans hcap), ?_, ?_⟩
  · obtain ⟨-, hrun, -⟩ := hc
    exact le_min (by decide) (hrun i hstanding)
  · have hlen : (s.slot i).burstLength s.acq = n := Slot.burstLength_eq s.acq sl
    show s.port.issued ++ [s.formRequest tag (.slot i)] = _
    simp only [State.formRequest, hlen]
    rfl
  · refine (sl.burstBytes_entry s.acq hj sl.nextToCopy).trans ?_
    simp only [captureEntryBytes, bytes48]
    by_cases hk : sl.nextToCopy + BitVec.ofNat 48 j = sl.trigger
    · rw [if_pos hk, beq_of_eq hk]
      simp only [List.append_assoc]
      rfl
    · rw [if_neg hk, beq_eq_false_iff_ne.2 hk]
      simp only [List.append_assoc]
      rfl
  all_goals
    rw [hslot]
    obtain ⟨hend, h⟩ | ⟨hend, h⟩ := Slot.onGrant_cases (a := s.acq) hs hf tag
  · exact fun _ => h
  · exact fun hlast => absurd hlast (Nat.ne_of_lt (Nat.lt_succ_of_le hend))
  · exact fun hmore => absurd hend (Nat.ne_of_lt (Nat.lt_succ_of_le hmore))
  · rw [h]
    exact fun _ => (sl.sent tag n).checkRequest_checked s.acq

/-! ### The answer to a burst -/

theorem BurstAnswer.ofAnswer_eq (ans : Answer) :
    BurstAnswer.ofAnswer ans = if ans = .ok then .ok else .error := by
  cases ans <;> rfl

/-- The record an answer marks is the first WAITING one of its tag (R80). -/
theorem markBurst_append {tag : Tag} {before after : List BurstRecord} {b : BurstRecord} (hb : b.tag = tag)
    (hw : b.answer = .waiting) (h : ∀ x ∈ before, ¬ (x.tag = tag ∧ x.answer = .waiting)) (ans : Answer) :
    markBurst tag ans (before ++ b :: after) = before ++ { b with answer := .ofAnswer ans } :: after := by
  induction before with
  | nil => exact if_pos ⟨hb, hw⟩
  | cons x rest ih =>
    have hx := h x (List.mem_cons_self ..)
    rw [List.cons_append, markBurst, if_neg hx, ih fun y hy => h y (List.mem_cons_of_mem x hy)]
    rfl

/-- The slot with an answer marked: the records answered OK leave the head of the list and are counted (R80). -/
theorem Slot.answered_eq {sl : Slot} {tag : Tag} {marked : List BurstRecord} {ans : Answer}
    (h : markBurst tag ans sl.bursts = marked) :
    sl.answered tag ans =
      { sl with
        outstanding := sl.outstanding - 1
        bursts := marked.dropWhile (fun x => x.answer == .ok)
        leading := sl.leading + burstTotal (marked.takeWhile (fun x => x.answer == .ok)) } := by
  rw [Slot.answered_frame, h, leadingRun_eq]
  rfl

theorem Slot.settle_of_closing {sl : Slot} (h : sl.state = .closing) :
    sl.settle = { sl with state := if sl.outstanding = 0 then .posting else .closing } := by
  unfold Slot.settle
  by_cases ho : sl.outstanding = 0
  · rw [if_pos ⟨h, ho⟩, if_pos ho]
  · rw [if_neg fun e => ho e.2, if_neg ho, ← h]

theorem Slot.onResponse_filling_ok {sl : Slot} (h : sl.state = .filling) (a : Acquisition) (tag : Tag) :
    sl.onResponse a tag .ok =
      if (sl.answered tag .ok).bursts.length < sl.bursts.length then (sl.answered tag .ok).checkRequest a
      else sl.answered tag .ok := by
  simp only [Slot.onResponse, h]

theorem Slot.onResponse_filling_error {sl : Slot} (h : sl.state = .filling) (a : Acquisition) (tag : Tag) :
    sl.onResponse a tag .error =
      { sl.answered tag .error with
        state := if sl.outstanding - 1 = 0 then .posting else .closing
        status := some .writeError
        requestStanding := false } := by
  simp only [Slot.onResponse, h]
  exact Slot.settle_of_closing (by rfl)

theorem Slot.onResponse_closing {sl : Slot} (h : sl.state = .closing) (a : Acquisition) (tag : Tag) (ans : Answer) :
    sl.onResponse a tag ans =
      { sl.answered tag ans with
        state := if sl.outstanding - 1 = 0 then .posting else .closing
        status := if ans = .ok then sl.status else some .writeError } := by
  simp only [Slot.onResponse, h]
  cases ans with
  | ok => exact Slot.settle_of_closing (by exact h)
  | error => exact Slot.settle_of_closing (by exact h)

/-- A burst's answer reaches its slot, and the check of a held START follows, which does nothing outside ENABLED. -/
theorem exec_burstWriteResponse {s : State} {r : Response} {i : SlotId} {size : Nat} {e : Option Tick}
    (he : s.entry r.tag = .active (.slot i) size e) {x : Slot}
    (hx : (s.setEntry r.tag .free).toSlot i r.tag r.answer = ((s.setEntry r.tag .free).setSlot i x).checkStart)
    (hstay : (((s.setEntry r.tag .free).setSlot i x).checkStart).endPassage =
      ((s.setEntry r.tag .free).setSlot i x).checkStart) :
    ∃ t : State, exec (.burstWriteResponse r) s = .next t.checkStart ∧
      t = { s with cap := { s.cap with slots := t.cap.slots }, port := { s.port with entries := t.port.entries } } ∧
      s.EntryReplaced t r.tag .free ∧ (∀ j, j ≠ i → t.slot j = s.slot j) ∧ t.slot i = x := by
  refine ⟨(s.setEntry r.tag .free).setSlot i x, ?_, rfl, State.entryReplaced_of_entries rfl, fun j hj => ?_, ?_⟩
  · refine congrArg Host.Outcome.next ?_
    rw [State.takeResponse_of_active he, State.deliver, hx, hstay]
  · exact ((s.setEntry r.tag .free).setSlot_slot i j x).trans (if_neg hj)
  · exact (s.setEntry r.tag .free).setSlot_slot_same i x

/-- Settles O27: the marked list decides what the slot counts, and the device state what it does. -/
theorem burstAnswered : Obligations.BurstAnswered := by
  intro s r i size e he sl leaves
  have left {x : Slot} (hd : s.ctl.device ≠ .enabled) :
      ((s.setEntry r.tag .free).setSlot i x).checkStart = (s.setEntry r.tag .free).setSlot i x :=
    State.checkStart_of_left hd
  constructor
  · intro hw
    have hd : s.ctl.device ≠ .enabled := State.not_enabled_of_absorbs (.inr hw)
    refine exec_burstWriteResponse he ?_ ?_
    · rw [left hd]
      obtain ⟨h | h, -⟩ := hw <;> simp only [State.toSlot, State.setEntry_ctl, h] <;> rfl
    · rw [left hd]
      exact State.absorbs (.inr hw) rfl rfl
  intro before after b hb htag hwaiting hbefore marked remaining taken closed
  have hmarked : markBurst r.tag r.answer sl.bursts = marked := by
    rw [hb, markBurst_append htag hwaiting hbefore, BurstAnswer.ofAnswer_eq]
  have htaken : sl.answered r.tag r.answer = taken := Slot.answered_eq hmarked
  refine ⟨fun hd => ?_, fun hd => ?_⟩
  · refine exec_burstWriteResponse he ?_ ?_
    · rw [left (by simp [hd])]
      simp only [State.toSlot, State.setEntry_ctl, hd]
      rw [← hmarked]
      rfl
    · rw [left (by simp [hd])]
      exact State.absorbs (.inl hd) rfl rfl
  have answered {x : Slot} (h : sl.onResponse s.acq r.tag r.answer = x) : leaves fun y => y = x := by
    refine exec_burstWriteResponse he ?_ ?_
    · simp only [State.toSlot, State.setEntry_ctl, hd, ← h]
      rfl
    · refine State.endPassage_of_enabled ?_
      rw [State.checkStart_frame]
      exact hd
  refine ⟨fun hok hf => ?_, fun hok hc => answered ?_, fun herr hf => answered ?_, fun herr hc => answered ?_⟩
  · have hx := Slot.onResponse_filling_ok (sl := sl) hf s.acq r.tag
    rw [← hok, htaken] at hx
    obtain ⟨t, hexec, hframe, hentry, hothers, hslot⟩ := answered hx
    refine ⟨t, hexec, hframe, hentry, hothers, ?_⟩
    rw [hslot]
    split
    next => exact taken.checkRequest_checked s.acq
    next => rfl
  · rw [Slot.onResponse_closing hc, htaken, if_pos hok]
  · have hx := Slot.onResponse_filling_error (sl := sl) hf s.acq r.tag
    rw [← herr, htaken] at hx
    exact hx
  · have hne : r.answer ≠ .ok := by simp [herr]
    rw [Slot.onResponse_closing hc, htaken, if_neg hne]

end Sys2Proof.Machine
end

/-! PROOFS. The evaluation of a sample (chapters 2 to 4): what its capture requests leave (O16), and what it leaves of the
watches, the Report List and acquisition (O15). -/

section
namespace Sys2Proof.Machine

/-! ### The capture requests of a sample -/

/-- The captures a list of requesting watches is served with: the FREE slots, lowest first, and the buffers of the cache,
head first, one each (R70). -/
def State.served (s : State) (asked : List WatchId) : List ((WatchId × SlotId) × Descriptor) :=
  (asked.zip s.freeSlots).zip s.cap.cache

/-- The slot a capture request allocates, after its check of R76. -/
def State.allocatedSlot (s : State) (p : PresentedSample) (w : WatchId) (d : Descriptor) : Slot :=
  (Slot.allocated s.acq s.cap.runEndMark w p.number (s.watch w).config.pre (s.watch w).config.post d).checkRequest s.acq

/-- What the requests of these watches, in their order, leave of the Capture Unit, of the fetch state and of the missed
counts (R35, R36, R70, R100). -/
structure State.CapturesServed (s : State) (p : PresentedSample) (asked : List WatchId) (u : State) : Prop where
  watches : ∀ v, u.watch v =
    if v ∈ asked.drop (min s.freeSlots.length s.cap.cache.length) then (s.watch v).countMissed else s.watch v
  cap : u.cap = { s.cap with slots := u.cap.slots, cache := s.cap.cache.drop (s.served asked).length }
  taken : ∀ w i d, ((w, i), d) ∈ s.served asked → u.slot i = s.allocatedSlot p w d
  others : ∀ i, (∀ r ∈ s.served asked, r.1.2 ≠ i) → u.slot i = s.slot i
  fetch : u.fetch =
    { s.fetch with
      fetch :=
        if s.served asked ≠ [] ∧ s.fetch.fetch = .idle ∧ 0 < s.fetch.available ∧ u.cap.cache.length < 4 ∧
            s.fetch.rejections = [] then .requested
        else s.fetch.fetch }

theorem Slot.allocated_state (a : Acquisition) (mark : Option SampleNo) (w : WatchId) (k : SampleNo) (pre post : Nat)
    (d : Descriptor) : (Slot.allocated a mark w k pre post d).state = .filling := by
  obtain ⟨-, h⟩ | ⟨m, -, -, h⟩ | ⟨m, -, -, h⟩ := Slot.allocated_cases a mark w k pre post d
  all_goals rw [h]; rfl

theorem Slot.checkRequest_state (a : Acquisition) (sl : Slot) : (sl.checkRequest a).state = sl.state := by
  obtain ⟨-, -, -, -, h⟩ | h := sl.checkRequest_cases a
  · rw [h]
  · rw [h]

theorem State.allocatedSlot_state (s : State) (p : PresentedSample) (w : WatchId) (d : Descriptor) :
    (s.allocatedSlot p w d).state = .filling :=
  (Slot.checkRequest_state _ _).trans (Slot.allocated_state _ _ _ _ _ _ _)

/-- The first element a list search finds is the head of its filter, and the filter without it is the tail. -/
theorem filter_eq_cons_of_find? {α : Type} {l : List α} {f g : α → Bool} {i : α} (hl : l.Nodup) (h : l.find? f = some i)
    (hi : g i = false) (hg : ∀ j, j ≠ i → g j = f j) : l.filter f = i :: l.filter g := by
  obtain ⟨hf, before, after, rfl, hbefore⟩ := List.find?_eq_some_iff_append.1 h
  have hne : ∀ j ∈ after, j ≠ i := fun j hj e => by
    subst e
    exact (List.nodup_cons.1 (List.nodup_append.1 hl).2.1).1 hj
  have hskip : before.filter f = [] := List.filter_eq_nil_iff.2 fun j hj => by simpa using hbefore j hj
  have hskip' : before.filter g = [] := List.filter_eq_nil_iff.2 fun j hj => by
    by_cases hji : j = i
    · rw [hji, hi]
      exact Bool.false_ne_true
    · simpa [hg j hji] using hbefore j hj
  rw [List.filter_append, List.filter_append, hskip, hskip', List.filter_cons_of_pos hf,
    List.filter_cons_of_neg (by simp [hi]), List.nil_append, List.nil_append,
    List.filter_congr fun j hj => hg j (hne j hj)]

/-- The slot allocated first is the lowest FREE one; the other FREE slots stay FREE (R70). -/
theorem State.freeSlots_eq_cons {s t : State} {i : SlotId} {x : Slot} (h : s.cap.freeSlot = some i)
    (hx : x.state ≠ .free) (ht : t.cap.slots = tset s.cap.slots i x) : s.freeSlots = i :: t.freeSlots := by
  refine filter_eq_cons_of_find? (List.nodup_finRange 4) h ?_ fun j hj => ?_
  · rw [State.slot, ht, tget_tset_same]
    exact beq_eq_false_iff_ne.2 hx
  · rw [State.slot, ht, tget_tset_other _ _ hj]
    rfl

/-- No capture is served without a FREE slot or a buffer. -/
theorem State.served_eq_nil {s : State} (h : s.freeSlots = [] ∨ s.cap.cache = []) (asked : List WatchId) :
    s.served asked = [] := by
  unfold State.served
  obtain h | h := h
  · rw [h, List.zip_nil_right, List.zip_nil_left]
  · rw [h, List.zip_nil_right]

theorem State.mem_freeSlots_of_served {s : State} {asked : List WatchId} {r : (WatchId × SlotId) × Descriptor}
    (h : r ∈ s.served asked) : r.1.2 ∈ s.freeSlots :=
  (List.of_mem_zip (a := r.1.1) (b := r.1.2) (List.of_mem_zip (a := r.1) (b := r.2) h).1).2

namespace State.CapturesServed

variable {s u : State} {p : PresentedSample} {w : WatchId} {asked : List WatchId}

theorem nil (s : State) (p : PresentedSample) : s.CapturesServed p [] s where
  watches _ := by simp
  cap := rfl
  taken _ _ _ h := absurd h List.not_mem_nil
  others _ _ := rfl
  fetch := by simp [State.served]

/-- A request refused is counted, and takes nothing (R36). -/
theorem refused (hnone : s.freeSlots = [] ∨ s.cap.cache = []) (hw : w ∉ asked)
    (h : (s.setWatch w (s.watch w).countMissed).CapturesServed p asked u) : s.CapturesServed p (w :: asked) u := by
  have hnil := State.served_eq_nil hnone
  have hnil' : (s.setWatch w (s.watch w).countMissed).served asked = [] := State.served_eq_nil (by exact hnone) asked
  have hzero : min s.freeSlots.length s.cap.cache.length = 0 := by
    obtain h | h := hnone <;> simp [h]
  obtain ⟨hwatches, hcap, -, hothers, hfetch⟩ := h
  rw [hnil'] at hcap hothers hfetch
  refine ⟨fun v => ?_, ?_, ?_, ?_, ?_⟩
  · have hv := hwatches v
    rw [show min (s.setWatch w (s.watch w).countMissed).freeSlots.length
      (s.setWatch w (s.watch w).countMissed).cap.cache.length = 0 from hzero, List.drop_zero, State.setWatch_watch] at hv
    rw [hv, hzero, List.drop_zero]
    by_cases hvw : v = w
    · subst hvw
      rw [if_neg hw, if_pos rfl, if_pos (List.mem_cons_self ..)]
    · simp only [List.mem_cons, hvw, false_or, if_false]
  · rw [hnil]
    exact hcap
  · rw [hnil]
    exact fun _ _ _ h => absurd h List.not_mem_nil
  · rw [hnil]
    exact hothers
  · rw [hnil]
    exact hfetch

/-- A request accepted takes the lowest FREE slot and the head of the cache, and lets the Buffer Fetcher check (R70, R100). -/
theorem accepted {i : SlotId} {d : Descriptor} {rest : List Descriptor} (hd : s.ctl.device = .enabled)
    (hi : s.cap.freeSlot = some i) (hc : s.cap.cache = d :: rest)
    (h : ((s.withCap
      { s.cap with slots := tset s.cap.slots i (s.allocatedSlot p w d), cache := rest }).checkBufferFetch).CapturesServed
        p asked u) : s.CapturesServed p (w :: asked) u := by
  obtain ⟨f, ht, hf⟩ : ∃ f, (s.withCap
      { s.cap with slots := tset s.cap.slots i (s.allocatedSlot p w d), cache := rest }).checkBufferFetch =
        (s.withCap { s.cap with slots := tset s.cap.slots i (s.allocatedSlot p w d), cache := rest }).withFetch
          { s.fetch with fetch := f } ∧
      f = if s.fetch.fetch = .idle ∧ 0 < s.fetch.available ∧ rest.length < 4 ∧ s.fetch.rejections = [] then .requested
        else s.fetch.fetch := by
    refine ⟨_, State.checkBufferFetch_eq _, ?_⟩
    obtain ⟨⟨-, hdue⟩, h⟩ | ⟨hdue, h⟩ := State.checkBufferFetch_cases
      (s.withCap { s.cap with slots := tset s.cap.slots i (s.allocatedSlot p w d), cache := rest })
    · rw [h]
      exact (if_pos (by exact hdue)).symm
    · rw [h]
      exact (if_neg (by exact fun e => hdue ⟨hd, e⟩)).symm
  rw [ht] at h
  have hfree := State.freeSlots_eq_cons (s := s)
    (t := (s.withCap { s.cap with slots := tset s.cap.slots i (s.allocatedSlot p w d), cache := rest }).withFetch
      { s.fetch with fetch := f }) hi (by simp [s.allocatedSlot_state p w d]) rfl
  generalize htdef : (s.withCap { s.cap with slots := tset s.cap.slots i (s.allocatedSlot p w d), cache := rest }).withFetch
      { s.fetch with fetch := f } = t at h hfree
  have hserved : s.served (w :: asked) = ((w, i), d) :: t.served asked := by
    unfold State.served
    rw [hfree, hc, ← htdef]
    rfl
  obtain ⟨hwatches, hcap, htaken, hothers, hfetch⟩ := h
  refine ⟨fun v => ?_, ?_, fun v j e hmem => ?_, fun j hj => ?_, ?_⟩
  · rw [hwatches v, hfree, hc, ← htdef]
    simp only [List.length_cons, Nat.add_min_add_right, List.drop_succ_cons]
    rfl
  · rw [hcap, hserved, hc, ← htdef]
    rfl
  · have hi' : i ∉ t.freeSlots := by
      have : (i :: t.freeSlots).Nodup := hfree ▸ (List.nodup_finRange 4).filter _
      exact (List.nodup_cons.1 this).1
    rw [hserved, List.mem_cons] at hmem
    obtain hmem | hmem := hmem
    · obtain ⟨⟨rfl, rfl⟩, rfl⟩ : (v = w ∧ j = i) ∧ e = d := by simpa using hmem
      rw [hothers j fun r hr e => hi' (e ▸ State.mem_freeSlots_of_served hr), ← htdef]
      exact s.setSlot_slot_same j _
    · rw [htaken v j e hmem, ← htdef]
      rfl
  · rw [hserved, List.forall_mem_cons] at hj
    rw [hothers j hj.2, ← htdef]
    exact (s.setSlot_slot i j _).trans (if_neg fun e => hj.1 e.symm)
  · have hcache : u.cap.cache = rest.drop (t.served asked).length := by
      rw [hcap, ← htdef]
      rfl
    have hsame : t.served asked = [] → u.cap.cache.length = rest.length := fun e => by rw [hcache, e]; rfl
    have hfewer : u.cap.cache.length ≤ rest.length := by
      rw [hcache, List.length_drop]
      exact Nat.sub_le _ _
    have htfetch : t.fetch = { s.fetch with fetch := f } := by rw [← htdef]; rfl
    rw [hfetch, hserved, htfetch]
    refine congrArg (fun x => { s.fetch with fetch := x }) ?_
    rw [hf]
    change (if t.served asked ≠ [] ∧ (if s.fetch.fetch = .idle ∧ 0 < s.fetch.available ∧ rest.length < 4 ∧
      s.fetch.rejections = [] then FetchState.requested else s.fetch.fetch) = .idle ∧ 0 < s.fetch.available ∧
        u.cap.cache.length < 4 ∧ s.fetch.rejections = [] then _ else _) = _
    by_cases hdue : s.fetch.fetch = .idle ∧ 0 < s.fetch.available ∧ rest.length < 4 ∧ s.fetch.rejections = []
    · obtain ⟨hidle, havail, hroom, hrej⟩ := hdue
      simp [hidle, havail, hroom, hrej, Nat.lt_of_le_of_lt hfewer hroom]
    · rw [if_neg hdue]
      by_cases hnil : t.served asked = []
      · rw [if_neg (by simp [hnil]), if_neg]
        rintro ⟨-, hidle, havail, hroom, hrej⟩
        exact hdue ⟨hidle, havail, hsame hnil ▸ hroom, hrej⟩
      · simp [hnil]

end State.CapturesServed

/-- The requests of a sample, in ENABLED: the watches that ask are served in their order (R35, R36, R70). -/
theorem State.makeCaptureRequests_served (p : PresentedSample) {ws : List WatchId} (hws : ws.Nodup) {s : State}
    (hd : s.ctl.device = .enabled) :
    s.CapturesServed p (ws.filter fun w => (s.watch w).config.capture) (State.makeCaptureRequests p ws s) := by
  induction ws generalizing s with
  | nil => exact .nil s p
  | cons w rest ih =>
    obtain ⟨hw, hrest⟩ := List.nodup_cons.1 hws
    rw [State.makeCaptureRequests]
    cases hcapture : (s.watch w).config.capture with
    | false =>
      rw [List.filter_cons_of_neg (by simp [hcapture])]
      exact ih hrest hd
    | true =>
      rw [List.filter_cons_of_pos (p := fun v => (s.watch v).config.capture) hcapture]
      rw [if_pos rfl]
      cases hreq : s.requestCapture w p.number (s.watch w).config.pre (s.watch w).config.post with
      | none =>
        refine .refused ?_ (fun e => hw (List.mem_of_mem_filter e)) ?_
        · obtain h | h | h := State.requestCapture_none.1 hreq
          · exact absurd hd h
          · exact .inl (List.filter_eq_nil_iff.2 fun i _ => by simpa using h i)
          · exact .inr h
        · have hconfig : (fun v => ((s.setWatch w (s.watch w).countMissed).watch v).config.capture) =
              fun v => (s.watch v).config.capture := funext fun v => by
            rw [State.setWatch_watch]
            split
            next e => rw [e]; rfl
            next => rfl
          rw [← hconfig]
          exact ih hrest hd
      | some t =>
        obtain ⟨-, i, d, cached, hi, hc, rfl⟩ := State.requestCapture_some hreq
        refine .accepted hd hi hc ?_
        have same : (fun v => (((s.withCap { s.cap with
              slots := tset s.cap.slots i (s.allocatedSlot p w d), cache := cached }).checkBufferFetch).watch
                v).config.capture) = fun v => (s.watch v).config.capture := by
          rw [State.checkBufferFetch_eq]
          rfl
        rw [← same]
        refine ih hrest ?_
        rw [State.checkBufferFetch_eq]
        exact hd

/-! ### The four phases and the close -/

/-- Phases 1 to 3 of an evaluation (R24). -/
def State.requested (s : State) (p : PresentedSample) : State :=
  State.makeCaptureRequests p (firedSet s.eng.watches p) (s.withEng (s.eng.evaluateAll p))

theorem State.requesters_eq (s : State) (p : PresentedSample) :
    (firedSet s.eng.watches p).filter (fun w => ((s.withEng (s.eng.evaluateAll p)).watch w).config.capture) =
      s.requesters p := by
  unfold firedSet State.requesters
  rw [List.filter_filter]
  refine List.filter_congr fun w _ => ?_
  rw [State.withEng_watch, WatchEngine.evaluateAll_watch, Watch.evaluate_config, Bool.and_comm]
  rfl

section
variable {s u : State} {p : PresentedSample} {asked : List WatchId} {e : WatchEngine}

theorem State.CapturesServed.watch_of_withEng (h : (s.withEng e).CapturesServed p asked u) (v : WatchId) :
    u.watch v = if v ∈ asked.drop (min s.freeSlots.length s.cap.cache.length) then (tget e.watches v).countMissed
      else tget e.watches v := h.watches v

theorem State.CapturesServed.cap_of_withEng (h : (s.withEng e).CapturesServed p asked u) :
    u.cap = { s.cap with slots := u.cap.slots, cache := s.cap.cache.drop (s.served asked).length } := h.cap

/-- A request reads nothing of its watch but the configuration. -/
theorem State.CapturesServed.taken_of_withEng (h : (s.withEng e).CapturesServed p asked u)
    (he : ∀ w, (tget e.watches w).config = (s.watch w).config) {w : WatchId} {i : SlotId} {d : Descriptor}
    (hmem : ((w, i), d) ∈ s.served asked) : u.slot i = s.allocatedSlot p w d := by
  rw [h.taken w i d hmem]
  simp only [State.allocatedSlot, State.withEng_watch, he w]
  rfl

theorem State.CapturesServed.others_of_withEng (h : (s.withEng e).CapturesServed p asked u) {i : SlotId}
    (hi : ∀ r ∈ s.served asked, r.1.2 ≠ i) : u.slot i = s.slot i := h.others i hi

theorem State.CapturesServed.fetch_of_withEng (h : (s.withEng e).CapturesServed p asked u) :
    u.fetch =
      { s.fetch with
        fetch :=
          if s.served asked ≠ [] ∧ s.fetch.fetch = .idle ∧ 0 < s.fetch.available ∧ u.cap.cache.length < 4 ∧
              s.fetch.rejections = [] then .requested
          else s.fetch.fetch } := h.fetch

theorem State.makeCaptureRequests_withEng_frame (p : PresentedSample) (ws : List WatchId) (s : State) (e : WatchEngine) :
    State.makeCaptureRequests p ws (s.withEng e) =
      { s with
        cap := (State.makeCaptureRequests p ws (s.withEng e)).cap
        fetch := { s.fetch with fetch := (State.makeCaptureRequests p ws (s.withEng e)).fetch.fetch }
        eng := { e with watches := (State.makeCaptureRequests p ws (s.withEng e)).eng.watches } } :=
  State.makeCaptureRequests_frame p ws (s.withEng e)

end

/-- What phases 1 to 3 leave, in ENABLED. -/
theorem State.requested_served {s : State} (p : PresentedSample) (hd : s.ctl.device = .enabled) :
    (s.withEng (s.eng.evaluateAll p)).CapturesServed p (s.requesters p) (s.requested p) := by
  have := State.makeCaptureRequests_served p (ws := firedSet s.eng.watches p) ((List.nodup_finRange 64).filter _)
    (s := s.withEng (s.eng.evaluateAll p)) hd
  rwa [State.requesters_eq] at this

/-- The state at the close of a sample, before the check of a held START (R56, R63). -/
def State.closedSample (s : State) (halt : Option WatchId) (n : SampleNo) : State :=
  let t := s.withEng { s.eng with presented := none, begun := false }
  match halt, s.acq.state with
  | some w, .running =>
    (t.withAcq { s.acq with state := .idle, pendingHalt := some { watch := w, sample := n } }).withCap
      (s.cap.onEndOfRun { s.acq with state := .idle, pendingHalt := some { watch := w, sample := n } } (some n))
  | _, _ => t

/-- The close ends with the check of a held START: where a halt is taken, the pending ACQ_HALT keeps it from a take. -/
theorem State.closeSample_eq (s : State) (halt : Option WatchId) (n : SampleNo) :
    s.closeSample halt n = (s.closedSample halt n).checkStart := by
  unfold State.closeSample State.closedSample
  cases halt with
  | none => rfl
  | some w =>
    cases s.acq.state with
    | idle => rfl
    | running =>
      refine (Eq.symm ?_ : _ = State.checkStart _)
      obtain ⟨h, -⟩ | ⟨-, h⟩ := State.checkStart_cases
        (((s.withEng { s.eng with presented := none, begun := false }).withAcq
          { s.acq with state := .idle, pendingHalt := some { watch := w, sample := n } }).withCap
            (s.cap.onEndOfRun { s.acq with state := .idle, pendingHalt := some { watch := w, sample := n } } (some n)))
      · obtain ⟨-, -, -, -, hpending⟩ := (State.startReady_iff _).1 h
        cases hpending
      · exact h

/-- The evaluation of a sample, up to the check of a held START. -/
def State.evaluated (s : State) (p : PresentedSample) : State :=
  (s.beforeClose p).closedSample (s.halting p) p.number

theorem exec_sampleEvaluation_evaluated {s : State} {p : PresentedSample} (hd : s.ctl.device = .enabled)
    (hp : s.eng.presented = some p) (hn : s.eng.noticeWaiting = false) :
    exec (.sampleEvaluation .whole) s = .next (s.evaluated p).checkStart := by
  rw [exec_sampleEvaluation_whole hd hp hn, s.evaluateSample_eq, State.closeSample_eq]
  rfl

theorem State.halting_eq (s : State) (p : PresentedSample) :
    s.halting p = (List.finRange 64).find? fun w => (s.watch w).fires p.data && (s.watch w).config.halt := by
  unfold State.halting State.haltRequest firedSet
  rw [List.find?_filter]
  refine congrArg (List.find? · (List.finRange 64)) (funext fun w => ?_)
  rw [State.withEng_watch, WatchEngine.evaluateAll_watch, Watch.evaluate_config, Bool.decide_and, Bool.decide_eq_true,
    Bool.decide_eq_true]
  rfl

theorem State.haltTaken_eq_true {s : State} {p : PresentedSample} :
    s.haltTaken p = true ↔ s.acq.state = .running ∧ ∃ w, s.halting p = some w := by
  unfold State.haltTaken
  rw [Bool.and_eq_true, beq_iff_eq, List.any_eq_true, ← List.find?_isSome, Option.isSome_iff_exists, State.halting_eq]

/-- Phases 1 to 3 change the Capture Unit, the fetch state and the watches beside what phases 1 and 2 do at the Watch
Engine. -/
theorem State.requested_frame (s : State) (p : PresentedSample) :
    s.requested p =
      { s with
        cap := (s.requested p).cap
        fetch := { s.fetch with fetch := (s.requested p).fetch.fetch }
        eng := { s.eng.evaluateAll p with watches := (s.requested p).eng.watches } } :=
  State.makeCaptureRequests_withEng_frame p (firedSet s.eng.watches p) s (s.eng.evaluateAll p)

theorem State.beforeClose_eq (s : State) (p : PresentedSample) :
    s.beforeClose p =
      (s.requested p).withEng ((s.requested p).eng.succeedAll (firedSet s.eng.watches p) s.tick p.number) := by
  have htick : (s.requested p).tick = s.tick := by rw [s.requested_frame p]
  rw [← htick]
  rfl

theorem State.beforeClose_acq (s : State) (p : PresentedSample) : (s.beforeClose p).acq = s.acq := by
  rw [s.beforeClose_eq p, State.withEng_acq, s.requested_frame p]

theorem State.beforeClose_cap (s : State) (p : PresentedSample) : (s.beforeClose p).cap = (s.requested p).cap := by
  rw [s.beforeClose_eq p, State.withEng_cap]

/-- The Acquisition Unit after a halt is taken (R63). -/
def Acquisition.halted (a : Acquisition) (w : WatchId) (n : SampleNo) : Acquisition :=
  { a with state := .idle, pendingHalt := some { watch := w, sample := n } }

/-- A halt taken at the close ends the run (R63). -/
theorem State.evaluated_of_halt {s : State} {p : PresentedSample} {w : WatchId} (hrun : s.acq.state = .running)
    (hw : s.halting p = some w) :
    s.evaluated p =
      (((s.beforeClose p).withEng { (s.beforeClose p).eng with presented := none, begun := false }).withAcq
        (s.acq.halted w p.number)).withCap
          ((s.requested p).cap.onEndOfRun (s.acq.halted w p.number) (some p.number)) := by
  simp only [State.evaluated, State.closedSample, hw, s.beforeClose_acq, hrun]
  rw [s.beforeClose_cap]
  rfl

/-- With no halt taken the close changes the Watch Engine only (R56). -/
theorem State.evaluated_of_no_halt {s : State} {p : PresentedSample} (h : s.haltTaken p = false) :
    s.evaluated p = (s.beforeClose p).withEng { (s.beforeClose p).eng with presented := none, begun := false } := by
  have hno : ¬ (s.acq.state = .running ∧ ∃ w, s.halting p = some w) := fun e => by
    rw [State.haltTaken_eq_true.2 e] at h
    cases h
  simp only [State.evaluated, State.closedSample, s.beforeClose_acq]
  cases hw : s.halting p with
  | none => rfl
  | some w =>
    cases hrun : s.acq.state with
    | idle => rfl
    | running => exact absurd ⟨hrun, w, hw⟩ hno

/-- The run-end cut of a halt at every slot: `ends` in the terms of the statement. -/
theorem State.evaluated_slot {s : State} (p : PresentedSample) (i : SlotId) :
    if s.haltTaken p = true then ((s.requested p).slot i).CutAt s.acq.newest p.number ((s.evaluated p).slot i)
    else (s.evaluated p).slot i = (s.requested p).slot i := by
  cases h : s.haltTaken p with
  | true =>
    obtain ⟨hrun, w, hw⟩ := State.haltTaken_eq_true.1 h
    have hslot : (s.evaluated p).slot i = ((s.requested p).slot i).onEndOfRun (s.acq.halted w p.number) p.number := by
      rw [State.evaluated_of_halt hrun hw]
      exact tget_tmap _ _ _
    rw [if_pos rfl, hslot]
    exact Slot.onEndOfRun_cutAt _ _ _
  | false =>
    rw [if_neg (by decide), State.evaluated_of_no_halt h]
    show tget (s.beforeClose p).cap.slots i = _
    rw [s.beforeClose_cap]
    rfl

/-- Beside the slots, the close changes the run-end mark of the Capture Unit only, at a halt (R64, R75). -/
theorem State.evaluated_cap (s : State) (p : PresentedSample) :
    (s.evaluated p).cap =
      { (s.requested p).cap with
        slots := (s.evaluated p).cap.slots
        runEndMark := if s.haltTaken p = true then some p.number else (s.requested p).cap.runEndMark } := by
  cases h : s.haltTaken p with
  | true =>
    obtain ⟨hrun, w, hw⟩ := State.haltTaken_eq_true.1 h
    have hcap : (s.evaluated p).cap = (s.requested p).cap.onEndOfRun (s.acq.halted w p.number) (some p.number) := by
      rw [State.evaluated_of_halt hrun hw, State.withCap_cap]
    rw [if_pos rfl, hcap]
    generalize (s.requested p).cap = c
    rfl
  | false =>
    rw [State.evaluated_of_no_halt h, if_neg (by decide), State.withEng_cap, s.beforeClose_cap]

theorem State.evaluated_fetch (s : State) (p : PresentedSample) : (s.evaluated p).fetch = (s.requested p).fetch := by
  have hbefore : (s.beforeClose p).fetch = (s.requested p).fetch := by rw [s.beforeClose_eq p, State.withEng_fetch]
  cases h : s.haltTaken p with
  | true =>
    obtain ⟨hrun, w, hw⟩ := State.haltTaken_eq_true.1 h
    rw [State.evaluated_of_halt hrun hw, State.withCap_fetch, State.withAcq_fetch, State.withEng_fetch, hbefore]
  | false =>
    rw [State.evaluated_of_no_halt h, State.withEng_fetch, hbefore]

/-- Settles O16: the requests are served in order, and a halt cuts every slot after them. -/
theorem captureRequested : Obligations.CaptureRequested := by
  intro s p hd hp hn served ends
  have hreq := State.requested_served p hd
  refine ⟨s.evaluated p, exec_sampleEvaluation_evaluated hd hp hn, ?_, fun w i d hmem => ?_, fun i hi => ?_, ?_⟩
  · refine (s.evaluated_cap p).trans ?_
    rw [hreq.cap_of_withEng]
    rfl
  · have hslot := hreq.taken_of_withEng (fun v => by rw [WatchEngine.evaluateAll_watch, Watch.evaluate_config]; rfl) hmem
    have hend := s.evaluated_slot p i
    rw [hslot] at hend
    exact ⟨_, Slot.checkRequest_checked _ _, hend⟩
  · have hend := s.evaluated_slot p i
    rw [hreq.others_of_withEng hi] at hend
    exact hend
  · have hcache : (s.evaluated p).cap.cache = (s.requested p).cap.cache := by rw [s.evaluated_cap p]
    rw [s.evaluated_fetch p, hreq.fetch_of_withEng, hcache]
    rfl

/-! ### The watches after an evaluation -/

/-- The ids that join a Report List are those not in it, in their order (R18, R33). -/
theorem foldl_joinReports_eq {ws : List WatchId} (hws : ws.Nodup) (l : List WatchId) :
    ws.foldl joinReports l = l ++ ws.filter fun w => !decide (w ∈ l) := by
  induction ws generalizing l with
  | nil => exact (List.append_nil l).symm
  | cons w rest ih =>
    obtain ⟨hw, hrest⟩ := List.nodup_cons.1 hws
    rw [List.foldl_cons, ih hrest, joinReports]
    by_cases h : w ∈ l
    · rw [if_pos h, List.filter_cons_of_neg (by simp [h])]
    · rw [if_neg h, List.filter_cons_of_pos (by simp [h]), List.append_assoc]
      refine congrArg (fun x => l ++ w :: x) (List.filter_congr fun v hv => ?_)
      have hvw : v ≠ w := fun e => hw (e ▸ hv)
      simp [hvw]

theorem Watch.afterFire_missed (w : Watch) : w.afterFire.missed = w.missed := by
  unfold Watch.afterFire
  cases w.config.mode <;> rfl

theorem Watch.evaluate_missed (p : PresentedSample) (w : Watch) : (w.evaluate p).missed = w.missed := by
  unfold Watch.evaluate
  split
  · split
    · exact Watch.afterFire_missed _
    · split <;> rfl
  · rfl

theorem Watch.countMissed_eq (w : Watch) : w.countMissed = { w with missed := oneMoreMissed w.missed } := rfl

/-- Phase 4 for one watch, in full (R38, R39). -/
theorem Watch.succeed_eq (fired : List WatchId) (tick : Tick) (x : Watch) :
    x.succeed fired tick =
      if (∃ q, x.config.predecessor = some q ∧ q ∈ fired) ∧
          (x.state = .pending ∨ (x.state = .live ∧ x.config.relatch = true)) then
        { x with
          state := .live, skipRemaining := x.config.skip, previous := .unknown, expiryRaised := false,
          windowExpiry := if x.config.window = 0 then none else some (tick + BitVec.ofNat 48 x.config.window) }
      else x := by
  unfold Watch.succeed
  cases hp : x.config.predecessor with
  | none => exact (if_neg (by simp)).symm
  | some q =>
    by_cases h : q ∈ fired ∧ (x.state = .pending ∨ (x.state = .live ∧ x.config.relatch = true))
    · rw [if_pos (by exact ⟨⟨q, rfl, h.1⟩, h.2⟩)]
      exact if_pos (by simpa using h)
    · rw [if_neg (by simpa using h)]
      exact if_neg (by simpa using h)

theorem firedSet_nodup (v : Vector Watch 64) (p : PresentedSample) : (firedSet v p).Nodup :=
  (List.nodup_finRange 64).filter _

theorem WatchEngine.evaluateAll_frame (e : WatchEngine) (p : PresentedSample) :
    e.evaluateAll p =
      { e with
        watches := (e.evaluateAll p).watches
        reportList := e.reportList ++ (firedSet e.watches p).filter fun w => !decide (w ∈ e.reportList) } := by
  rw [← foldl_joinReports_eq (firedSet_nodup e.watches p)]
  unfold WatchEngine.evaluateAll
  rfl

theorem WatchEngine.succeedAll_frame (e : WatchEngine) (fired : List WatchId) (tick : Tick) (n : SampleNo) :
    e.succeedAll fired tick n = { e with watches := (e.succeedAll fired tick n).watches, lastEvaluated := some n } := by
  unfold WatchEngine.succeedAll
  rfl

/-- What an evaluation leaves of the Watch Engine, once the missed counts of phase 3 are known (R24). -/
theorem State.evaluated_of_watches {s t : State} {p : PresentedSample} {missed : WatchId → Nat} {v : Vector Watch 64}
    (hv : ∀ w, tget v w = { (s.watch w).evaluate p with missed := missed w })
    (ht : t.eng =
      { ({ s.eng.evaluateAll p with watches := v } : WatchEngine).succeedAll (firedSet s.eng.watches p) s.tick
          p.number with presented := none, begun := false }) : s.Evaluated t p missed := by
  have hlist : (firedSet s.eng.watches p).filter (fun w => !decide (w ∈ s.eng.reportList)) =
      (List.finRange 64).filter fun w => (s.watch w).fires p.data && !decide (w ∈ s.eng.reportList) := by
    unfold firedSet
    rw [List.filter_filter]
    exact List.filter_congr fun w _ => Bool.and_comm _ _
  constructor
  · obtain ⟨x, hx⟩ : ∃ x, t.eng =
        { s.eng with
          watches := x
          reportList := s.eng.reportList ++ (firedSet s.eng.watches p).filter fun w => !decide (w ∈ s.eng.reportList)
          lastEvaluated := some p.number
          presented := none
          begun := false } := by
      rw [ht, WatchEngine.succeedAll_frame, WatchEngine.evaluateAll_frame]
      exact ⟨_, rfl⟩
    rw [hx, hlist]
  · intro w x
    have hw : t.watch w = (tget v w).succeed (firedSet s.eng.watches p) s.tick := by
      rw [State.watch, ht]
      exact WatchEngine.succeedAll_watch _ _ s.tick p.number w
    have hconfig : x.config = (s.watch w).config := Watch.evaluate_config p (s.watch w)
    rw [hw, hv, Watch.succeed_eq]
    simp only [mem_firedSet, ← hconfig]
    rfl

theorem State.evaluated_eng (s : State) (p : PresentedSample) :
    (s.evaluated p).eng = { (s.beforeClose p).eng with presented := none, begun := false } := by
  cases h : s.haltTaken p with
  | true =>
    obtain ⟨hrun, w, hw⟩ := State.haltTaken_eq_true.1 h
    rw [State.evaluated_of_halt hrun hw, State.withCap_eng, State.withAcq_eng, State.withEng_eng]
  | false => rw [State.evaluated_of_no_halt h, State.withEng_eng]

/-- What an evaluation in ENABLED leaves of the Watch Engine (R24): the requests beyond those served are counted missed. -/
theorem State.evaluated_evaluated {s : State} (p : PresentedSample) (hd : s.ctl.device = .enabled) :
    s.Evaluated (s.evaluated p) p fun w =>
      if w ∈ (s.requesters p).drop (min s.freeSlots.length s.cap.cache.length) then oneMoreMissed (s.watch w).missed
      else (s.watch w).missed := by
  refine State.evaluated_of_watches (v := (s.requested p).eng.watches) (fun w => ?_) ?_
  · have hw := (State.requested_served p hd).watch_of_withEng w
    rw [WatchEngine.evaluateAll_watch] at hw
    refine hw.trans ?_
    split
    · rw [Watch.countMissed_eq, Watch.evaluate_missed]
      rfl
    · rw [← show ((s.watch w).evaluate p).missed = (s.watch w).missed from Watch.evaluate_missed p _]
      rfl
  · have he : (s.requested p).eng = { s.eng.evaluateAll p with watches := (s.requested p).eng.watches } := by
      rw [s.requested_frame p]
    rw [s.evaluated_eng p, s.beforeClose_eq p, State.withEng_eng, ← he]

theorem State.evaluated_frame (s : State) (p : PresentedSample) :
    s.evaluated p =
      { s with
        eng := (s.evaluated p).eng, acq := (s.evaluated p).acq, cap := (s.evaluated p).cap
        fetch := (s.evaluated p).fetch } := by
  obtain ⟨c, f, v, r, l, h⟩ := s.beforeClose_frame p
  cases hh : s.haltTaken p with
  | true =>
    obtain ⟨hrun, w, hw⟩ := State.haltTaken_eq_true.1 hh
    rw [State.evaluated_of_halt hrun hw, h]
    rfl
  | false =>
    rw [State.evaluated_of_no_halt hh, h]
    rfl

/-- What the close leaves of the Acquisition Unit (R63). -/
theorem State.evaluated_acq (s : State) (p : PresentedSample) :
    (∀ w, s.halting p = some w → s.acq.state = .running → (s.evaluated p).acq = s.acq.halted w p.number) ∧
    (s.haltTaken p = false → (s.evaluated p).acq = s.acq) := by
  constructor
  · intro w hw hrun
    rw [State.evaluated_of_halt hrun hw, State.withCap_acq, State.withAcq_acq]
  · intro h
    rw [State.evaluated_of_no_halt h, State.withEng_acq, s.beforeClose_acq]

theorem State.haltTaken_eq_false {s : State} {p : PresentedSample} (h : s.halting p = none ∨ s.acq.state = .idle) :
    s.haltTaken p = false := by
  refine eq_false_of_ne_true fun e => ?_
  obtain ⟨hrun, w, hw⟩ := State.haltTaken_eq_true.1 e
  obtain h | h := h
  · cases h.symm.trans hw
  · cases h.symm.trans hrun

/-- With no request served and no halt taken the Capture Unit stays as it was. -/
theorem State.evaluated_unserved {s : State} {p : PresentedSample} (hd : s.ctl.device = .enabled)
    (hnil : s.served (s.requesters p) = []) :
    (s.evaluated p).cap.cache = s.cap.cache ∧ (s.evaluated p).fetch = s.fetch ∧
      (s.haltTaken p = false → (s.evaluated p).cap = s.cap) := by
  have hreq := State.requested_served p hd
  have hothers (i : SlotId) : (s.requested p).slot i = s.slot i := hreq.others_of_withEng (by simp [hnil])
  have hcap : (s.requested p).cap = s.cap := by
    have hslots : (s.requested p).cap.slots = s.cap.slots := table_ext hothers
    rw [hreq.cap_of_withEng, hnil, hslots]
    rfl
  have hfetch : (s.requested p).fetch = s.fetch := by
    rw [hreq.fetch_of_withEng, hnil, if_neg (by simp)]
  refine ⟨?_, (s.evaluated_fetch p).trans hfetch, fun h => ?_⟩
  · rw [s.evaluated_cap p, hcap]
  · rw [State.evaluated_of_no_halt h, State.withEng_cap, s.beforeClose_cap, hcap]

/-- Within an evaluation no choice changes the Watch Engine (R7): no report is offered, and no START is taken. -/
theorem exec_eventChoice_eng {s t : State} (hb : s.eng.begun = true) (hp : s.eng.presented ≠ none)
    (h : exec .eventChoice s = .next t) : t.eng = s.eng := by
  have stayed (hno : ¬ s.mayChoose = true ∨ s.offer = none) : t.eng = s.eng := by
    rw [Host.Outcome.next.inj (h.symm.trans (exec_eventChoice_of_none hno))]
  by_cases hmay : s.mayChoose = true
  swap
  · exact stayed (.inl hmay)
  cases hx : s.offer with
  | none => exact stayed (.inr hx)
  | some x =>
    have hx := State.offer_eq_some.1 hx
    rw [Host.Outcome.next.inj (h.symm.trans (exec_eventChoice_of_offered hmay hx)), State.choose, State.withEvt_eng]
    cases hx with
    | captureDone d _ =>
      rw [State.itemChosen, State.captureDoneChosen_frame]
    | acqHalt r _ _ =>
      obtain ⟨hready, -⟩ | ⟨-, hsame⟩ := (s.withAcq { s.acq with pendingHalt := none }).checkStart_cases
      · exact absurd ((State.startReady_iff _).1 hready).2.2.1 hp
      · rw [State.itemChosen, hsame]
        rfl
    | cmdDone d _ _ _ => rfl
    | bufferReject r rest _ _ _ _ =>
      rw [State.itemChosen, State.checkBufferFetch_eq]
      rfl
    | watchReport w rest _ _ _ _ _ hbegun => exact absurd (hb.symm.trans hbegun) (by decide)

/-- Settles O15: the phases of an evaluation one after another, and what waits behind one that has begun. -/
theorem evaluationTaken : Obligations.EvaluationTaken := by
  refine ⟨fun s p hd hp hn => ?_, fun s p hd hp hn => ?_, fun s hb => ⟨?_, fun hp t h => exec_eventChoice_eng hb hp h⟩⟩
  · intro halting accepted
    refine ⟨s.evaluated p, exec_sampleEvaluation_evaluated hd hp hn, s.evaluated_frame p, s.evaluated_evaluated p hd, ?_,
      fun hnone => ?_⟩
    · obtain ⟨htaken, hkept⟩ := s.evaluated_acq p
      have hhalt : s.halting p = halting := s.halting_eq p
      rw [← hhalt]
      cases hw : s.halting p with
      | none => exact hkept (State.haltTaken_eq_false (.inl hw))
      | some w =>
        cases hrun : s.acq.state with
        | idle => exact hkept (State.haltTaken_eq_false (.inr hrun))
        | running => exact htaken w hw hrun
    · refine State.evaluated_unserved hd ?_
      obtain h | h := hnone
      · rw [h]
        rfl
      · obtain h | h : s.freeSlots.length = 0 ∨ s.cap.cache.length = 0 := by omega
        · exact State.served_eq_nil (.inl (List.length_eq_zero_iff.1 h)) _
        · exact State.served_eq_nil (.inr (List.length_eq_zero_iff.1 h)) _
  · simp only [exec, execSampleEvaluation, hp, hd, hn, and_self, if_true]
    rfl
  · have hnone (k : CommandKind) : s.dispatchedWatch k = none := by simp only [State.dispatchedWatch, hb, if_true]
    have hbusy : ¬ s.eng.begun = false := by simp [hb]
    refine ⟨?_, ?_, ?_, ?_, ?_, congrArg Host.Outcome.next (if_neg fun e => hbusy e.2.2),
      fun w => congrArg Host.Outcome.next (if_neg fun e => hbusy e.2.1)⟩
    · simp only [exec, execLoad, hnone]
    · simp only [exec, execArm, hnone]
    · simp only [exec, execDisarm, hnone]
    · simp only [exec, execFree, hnone]
    · simp only [exec, execSnapshot, hnone]

end Sys2Proof.Machine
end

/-! PROOFS. The device state (chapter 9): by what a command changes it (O56), what the entry into DISABLED leaves (O53),
and what a CONTROL write enters (O52). -/

section
namespace Sys2Proof.Machine

/-! ### Leaving ENABLED -/

/-- The part on entry into STOPPING or RESETTING, before the check whether the passage ends (R173, R174). -/
def State.left (s : State) (d : DeviceState) : State :=
  (s.stopBlocks d).withCtl { (s.stopBlocks d).ctl with enable := false }

theorem State.leave_eq (s : State) (d : DeviceState) : s.leave d = (s.left d).endPassage := rfl

theorem State.left_eq (s : State) {d : DeviceState} (hd : d ≠ .enabled) :
    s.left d =
      { s with
        acq := { s.acq with state := .idle, heldStart := false }
        eng := (s.stopBlocks d).eng
        cap := s.cap.stop
        fetch := s.fetch.withdraw
        cmd := s.cmd.abandon
        evt := s.evt.stop s.cmd.held
        ctl :=
          { s.ctl with
            device := d
            enable := false
            setupRequest := if s.ctl.setupRequest = .outstanding then .outstanding else .none } } := by
  unfold State.left
  rw [State.stopBlocks_eq s d hd]
  rfl

theorem State.endPassage_of_stopping {s : State} (hd : s.ctl.device = .stopping) (h : s.port.someActive = false) :
    s.endPassage = s.disabledValues := by
  simp [State.endPassage, hd, h]

theorem State.endPassage_of_resetting {s : State} (hd : s.ctl.device = .resetting) (h : s.port.someActive = false) :
    s.endPassage = s.softResetValues := by
  simp [State.endPassage, hd, h]

theorem State.endPassage_of_someActive {s : State} (h : s.port.someActive = true) : s.endPassage = s := by
  simp [State.endPassage, h]

/-! ### The turns of the device state -/

/-- Why the part is FAULTED: the cause with its code, and the state that enters FAULTED (R175). -/
inductive State.Faulting (s : State) (c : Instr) : FaultCode → State → Prop
  | setup (code : FaultCode) (tag : Tag) (size : Nat) (e : Option Tick) (x : PortEntry) : s.ctl.device = .starting →
      s.entry tag = .active .control size e → EndsEntry c tag size e x → code = .setupRead ∨ code = .setupInvalid →
      s.Faulting c code ((s.setEntry tag x).withCtl { s.ctl with setupRequest := .none })
  | command (tag : Tag) (size : Nat) (e : Option Tick) (x : PortEntry) : s.ctl.device = .enabled →
      s.entry tag = .active .command size e → EndsEntry c tag size e x →
      s.Faulting c .cqRead ((s.setEntry tag x).withCmd { s.cmd with state := .idle, link := .none })
  | fetcher (tag : Tag) (size : Nat) (e : Option Tick) (x : PortEntry) : s.ctl.device = .enabled →
      s.entry tag = .active .fetcher size e → EndsEntry c tag size e x →
      s.Faulting c .bqRead ((s.setEntry tag x).withFetch { s.fetch with fetch := .idle, batch := none })
  | writer (tag : Tag) (size : Nat) (e : Option Tick) (x : PortEntry) : s.ctl.device = .enabled →
      s.entry tag = .active .writer size e → EndsEntry c tag size e x →
      s.Faulting c .eqWrite ((s.setEntry tag x).withEvt { s.evt with inFlight := none, request := .none })
  | range (code : FaultCode) : s.ctl.device = .enabled → RangeWrite c code → s.Faulting c code s

/-- An answer absorbed in STOPPING or RESETTING: at most the requests of the blocks and the slots change. -/
def State.Absorbed (s u : State) : Prop :=
  u = { s with
    ctl := { s.ctl with setupRequest := u.ctl.setupRequest }
    cmd := u.cmd
    fetch := u.fetch
    evt := { s.evt with inFlight := u.evt.inFlight, request := u.evt.request }
    cap := u.cap }

theorem State.Absorbed.device {s u : State} (h : s.Absorbed u) : u.ctl.device = s.ctl.device := by
  rw [State.Absorbed] at h
  rw [h]

theorem State.Absorbed.port {s u : State} (h : s.Absorbed u) : u.port = s.port := by
  rw [State.Absorbed] at h
  rw [h]

/-- What a command can do to the device state, by its cause (Table 9-2). -/
inductive State.Turn (s : State) (c : Instr) : State → Prop
  | kept (t : State) : t.ctl.device = s.ctl.device → s.Turn c t
  | started (v : Word) : controlValue c = some v → v.getLsbD 0 = true → s.ctl.device = .disabled →
      s.Turn c s.enterStarting
  | setUp (tag : Tag) (size : Nat) (e : Option Tick) (x : PortEntry) (b : Setup) : s.ctl.device = .starting →
      s.entry tag = .active .control size e → EndsEntry c tag size e x →
      s.Turn c (((s.setEntry tag x).withCtl { s.ctl with setupRequest := .none }).enterEnabled b)
  | faulted (code : FaultCode) (u : State) : s.Faulting c code u → s.Turn c (u.enterFaulted code)
  | reset (v : Word) : controlValue c = some v → v.getLsbD 1 = true → s.ctl.device ≠ .resetting →
      s.Turn c (s.left .resetting).endPassage
  | disabled (v : Word) : controlValue c = some v → v.getLsbD 0 = false →
      s.ctl.device = .starting ∨ s.ctl.device = .enabled ∨ s.ctl.device = .faulted →
      s.Turn c (s.left .stopping).endPassage
  | ended (q : Requester) (tag : Tag) (size : Nat) (e : Option Tick) (x : PortEntry) (u : State) :
      s.ctl.device = .stopping ∨ s.ctl.device = .resetting → s.entry tag = .active q size e →
      EndsEntry c tag size e x → (s.setEntry tag x).Absorbed u → s.Turn c u.endPassage
  | pin (level : Bool) : s.pinActs c → s.Turn c (s.powerOn level)

theorem State.Turn.of_tickAndDevice {s t : State} {c : Instr} (h : t.tickAndDevice = s.tickAndDevice) : s.Turn c t :=
  .kept t (congrArg Prod.snd h)

/-- What an answer in STOPPING or RESETTING leaves. -/
theorem State.Delivered.absorbed {s t : State} {tag : Tag} {ans : Answer} {data : ReadData} {q : Requester}
    (h : s.Delivered tag ans data q t) (hd : s.ctl.device = .stopping ∨ s.ctl.device = .resetting) : s.Absorbed t := by
  have away {d : DeviceState} (he : s.ctl.device = d) (h1 : d ≠ .stopping) (h2 : d ≠ .resetting) : s.Absorbed t := by
    obtain hd | hd := hd
    · exact absurd (he.symm.trans hd) h1
    · exact absurd (he.symm.trans hd) h2
  cases h with
  | setupAbsorbed _ => rfl
  | commandAbsorbed _ => rfl
  | batchAbsorbed _ => rfl
  | eventAbsorbed _ _ => rfl
  | burstAnsweredLeaving i _ => rfl
  | burstDropped i _ => rfl
  | setupFailed code hd _ => exact away hd (by decide) (by decide)
  | setupTaken hd _ _ => exact away hd (by decide) (by decide)
  | recordTaken hd _ _ => exact away hd (by decide) (by decide)
  | recordFailed hd _ _ => exact away hd (by decide) (by decide)
  | snapshotAnswered hd _ => exact away hd (by decide) (by decide)
  | batchTaken b hd _ _ => exact away hd (by decide) (by decide)
  | batchFailed b hd _ _ => exact away hd (by decide) (by decide)
  | eventWritten hd _ => exact away hd (by decide) (by decide)
  | eventFailed hd _ => exact away hd (by decide) (by decide)
  | eventWrittenFaulted hd _ => exact away hd (by decide) (by decide)
  | eventFailedFaulted hd _ => exact away hd (by decide) (by decide)
  | burstAnswered i hd => exact away hd (by decide) (by decide)
  | burstAnsweredFaulted i hd => exact away hd (by decide) (by decide)

/-- The end of an entry outside the passages keeps the device state, is taken in STARTING, or is a fault. -/
theorem State.Delivered.turn {s t : State} {c : Instr} {tag : Tag} {ans : Answer} {data : ReadData} {q : Requester}
    {size : Nat} {e : Option Tick} {x : PortEntry} (he : s.entry tag = .active q size e)
    (hends : EndsEntry c tag size e x) (h : (s.setEntry tag x).Delivered tag ans data q t) : s.Turn c t.endPassage := by
  by_cases hpass : s.ctl.device = .stopping ∨ s.ctl.device = .resetting
  · exact .ended q tag size e x t hpass he hends (h.absorbed hpass)
  have stays (u : State) (hu : u.ctl.device = s.ctl.device) : s.Turn c u.endPassage := by
    rw [State.endPassage_of_not_passing (fun e => hpass (.inl (hu ▸ e))) (fun e => hpass (.inr (hu ▸ e)))]
    exact .kept u hu
  have faults {code : FaultCode} {u : State} (hu : s.Faulting c code u) : s.Turn c (u.enterFaulted code).endPassage := by
    rw [State.endPassage_enterFaulted]
    exact .faulted code u hu
  cases h with
  | setupFailed code hd hcode =>
    exact faults (.setup code tag size e x hd he hends (hcode.imp And.right fun h => h.2.2))
  | setupTaken hd _ _ =>
    rw [State.endPassage_of_not_passing (by exact (nomatch ·)) (by exact (nomatch ·))]
    exact .setUp tag size e x _ hd he hends
  | recordFailed hd _ _ => exact faults (.command tag size e x hd he hends)
  | batchFailed b hd _ _ => exact faults (.fetcher tag size e x hd he hends)
  | eventFailed hd _ => exact faults (.writer tag size e x hd he hends)
  | batchTaken b _ _ _ => exact stays _ (by rw [State.bqRead_ok_frame]; rfl)
  | eventWritten _ _ => exact stays _ (by rw [State.eqWritten_ok_frame]; rfl)
  | burstAnswered i _ => exact stays _ (by rw [State.checkStart_frame]; rfl)
  | _ => exact stays _ rfl

theorem State.Event.turn {s t : State} {c : Instr} (h : s.Event c t) : s.Turn c t := by
  cases h with
  | entryEnded _ q tag size e x ans data u he hends hu => exact hu.turn he hends
  | rangeFault _ code hd hw => exact .faulted code s (.range code hd hw)
  | enabledWritten _ v hv _ h0 hd => exact .started v hv h0 hd
  | resetWritten _ v hv h1 hd => exact .reset v hv h1 hd
  | disabledWritten _ v hv _ h0 hd => exact .disabled v hv h0 hd
  | pinMoved _ level hp => exact .pin level hp
  | evaluated p _ _ _ => exact .of_tickAndDevice (s.tickAndDevice_evaluateSample p)
  | startHeld _ cur _ _ => exact .of_tickAndDevice (State.tickAndDevice_checkStart _)
  | granted q tag _ _ _ => exact .of_tickAndDevice ((State.tickAndDevice_withPort _ _).trans (s.tickAndDevice_tellGranted _ _))
  | chosen x _ _ => exact .of_tickAndDevice (s.tickAndDevice_choose x)
  | cqTailRaised v _ _ => exact .of_tickAndDevice (State.tickAndDevice_checkCommandFetch _)
  | bqTailRaised v _ _ => exact .of_tickAndDevice (State.tickAndDevice_checkBufferFetch _)
  | ticked _ => exact .kept _ (congrArg Prod.snd s.tickAndDevice_endDueEvaluation)
  | _ => exact .kept _ rfl

/-! ### What becomes of the Request Table -/

theorem EndsEntry.not_active {c : Instr} {tag : Tag} {size : Nat} {e : Option Tick} {x : PortEntry}
    (h : EndsEntry c tag size e x) : x.isActive = false := by
  obtain ⟨-, rfl⟩ | ⟨-, d, -, rfl⟩ := h
  · rfl
  · rfl

theorem State.EndedFor.of_replaced {s t : State} {q : Requester} {c : Instr} {tag : Tag} {size : Nat} {e : Option Tick}
    {x : PortEntry} (he : s.entry tag = .active q size e) (hends : EndsEntry c tag size e x)
    (ht : t.port.entries = tset s.port.entries tag x) : s.EndedFor t q :=
  ⟨tag, size, e, he, by rw [(State.entryReplaced_of_entries ht).1]; exact hends.not_active⟩

theorem State.enterFaulted_entries (s : State) (code : FaultCode) :
    (s.enterFaulted code).port.entries = s.port.entries := by
  rw [s.enterFaulted_eq]

theorem State.enterFaulted_code (s : State) (code : FaultCode) : (s.enterFaulted code).ctl.faultCode = code := by
  rw [s.enterFaulted_eq]

theorem State.endPassage_entries (s : State) : s.endPassage.port.entries = s.port.entries := by
  obtain ⟨-, -, h⟩ | ⟨-, -, h⟩ | ⟨-, h⟩ := s.endPassage_cases <;> rw [h] <;> rfl

/-- The rows of Table 9-2 for a fault. -/
theorem State.Faulting.row {s u : State} {c : Instr} {code : FaultCode} (h : s.Faulting c code u) :
    let t := u.enterFaulted code
    (s.ctl.device = .starting ∧ s.EndedFor t .control ∧ (code = .setupRead ∨ code = .setupInvalid)) ∨
    (s.ctl.device = .enabled ∧
      ((s.EndedFor t .command ∧ code = .cqRead) ∨ (s.EndedFor t .fetcher ∧ code = .bqRead) ∨
        (s.EndedFor t .writer ∧ code = .eqWrite) ∨ RangeWrite c code)) := by
  have hentries := u.enterFaulted_entries code
  cases h with
  | setup _ tag size e x hd he hends hcode => exact .inl ⟨hd, .of_replaced he hends hentries, hcode⟩
  | command tag size e x hd he hends => exact .inr ⟨hd, .inl ⟨.of_replaced he hends hentries, rfl⟩⟩
  | fetcher tag size e x hd he hends => exact .inr ⟨hd, .inr (.inl ⟨.of_replaced he hends hentries, rfl⟩)⟩
  | writer tag size e x hd he hends => exact .inr ⟨hd, .inr (.inr (.inl ⟨.of_replaced he hends hentries, rfl⟩))⟩
  | range _ hd hw => exact .inr ⟨hd, .inr (.inr (.inr hw))⟩

theorem State.left_device (s : State) {d : DeviceState} (hd : d ≠ .enabled) : (s.left d).ctl.device = d := by
  rw [s.left_eq hd]

/-- A passage entered goes on, or ends at once. -/
theorem State.endPassage_device (s : State) :
    s.endPassage.ctl.device = s.ctl.device ∨ s.endPassage.ctl.device = .disabled := by
  obtain ⟨-, -, h⟩ | ⟨-, -, h⟩ | ⟨-, h⟩ := s.endPassage_cases
  · rw [h]; exact .inr rfl
  · rw [h]; exact .inr rfl
  · rw [h]; exact .inl rfl

/-- Settles O56: each turn of the device state is a row of the table. -/
theorem deviceStateChanges : Obligations.DeviceStateChanges := by
  intro c s t h hne
  cases (State.event_of_exec h).turn with
  | kept _ hd => exact absurd hd hne
  | started v hv h0 hd => exact .inr (.inr (.inl ⟨hd, rfl, v, hv, h0⟩))
  | setUp tag size e x b hd he hends => exact .inr (.inr (.inr (.inl ⟨hd, rfl, .of_replaced he hends rfl⟩)))
  | faulted code u hf =>
    have hdev := u.enterFaulted_device code
    have hcode := u.enterFaulted_code code
    obtain ⟨hd, hended, hsetup⟩ | ⟨hd, hcause⟩ := hf.row
    · exact .inr (.inr (.inr (.inr (.inl ⟨hd, hdev, hended, by rwa [hcode]⟩))))
    · refine .inr (.inr (.inr (.inr (.inr (.inl ⟨hd, hdev, ?_⟩)))))
      rw [hcode]
      obtain h | h | h | h := hcause
      · exact .inl h
      · exact .inr (.inl h)
      · exact .inr (.inr (.inl h))
      · exact .inr (.inr (.inr h))
  | reset v hv h1 _ =>
    refine .inr (.inl ⟨⟨v, hv, h1⟩, ?_⟩)
    have := (s.left .resetting).endPassage_device
    rwa [s.left_device (by decide)] at this
  | disabled v hv h0 hd =>
    refine .inr (.inr (.inr (.inr (.inr (.inr (.inl ⟨hd, ?_, v, hv, h0⟩))))))
    have := (s.left .stopping).endPassage_device
    rwa [s.left_device (by decide)] at this
  | ended q tag size e x u hd he hends hu =>
    have hsame : u.ctl.device = s.ctl.device := hu.device
    have hentries : u.port.entries = tset s.port.entries tag x := by rw [hu.port]; rfl
    refine .inr (.inr (.inr (.inr (.inr (.inr (.inr ⟨hd, ?_, ⟨q, .of_replaced he hends ?_⟩, ?_⟩))))))
    · exact u.endPassage_device.resolve_left fun e => hne (e.trans hsame)
    · rw [u.endPassage_entries, hentries]
    · obtain ⟨hno, -, h⟩ | ⟨hno, -, h⟩ | ⟨-, h⟩ := u.endPassage_cases
      · rw [h]; exact hno
      · rw [h]; exact hno
      · exact absurd ((congrArg (fun y : State => y.ctl.device) h).trans hsame) hne
  | pin level hp => exact .inl ⟨hp, rfl⟩

/-! ### The entry into DISABLED -/

theorem MemoryPort.someActive_eq_false {m : MemoryPort} :
    m.someActive = false ↔ ∀ tag, (tget m.entries tag).isActive = false := by
  simp [MemoryPort.someActive]

/-- What a passage that ends at `u` has kept of the part as it was. -/
structure State.PassageFrom (s u : State) : Prop where
  address : u.ctl.setupAddress = s.ctl.setupAddress
  setup : u.ctl.checkedSetup = s.ctl.checkedSetup
  code : u.ctl.faultCode = s.ctl.faultCode
  multi : u.ctl.multi = s.ctl.multi
  tick : u.tick = s.tick
  interrupt : u.evt.interrupt = s.evt.interrupt
  limit : u.port.limitInForce = s.port.limitInForce
  entries : ∀ tag, u.entry tag = s.entry tag ∨
    ∃ q size e, s.entry tag = .active q size e ∧ (u.entry tag = .free ∨ u.entry tag = .stale size e)

/-- What the end of a passage leaves, whether of a disable or of a soft reset (R179). -/
def State.EntersDisabled (s t : State) : Prop :=
  (t.acq.state = .idle ∧ t.acq.sampleCounter = 0 ∧ t.acq.heldCount = 0 ∧ t.acq.pendingHalt = none ∧
    t.acq.heldStart = false) ∧
  ((∀ w, t.watch w = .freeContext) ∧ t.eng.reportList = [] ∧ t.eng.lastEvaluated = none ∧ t.eng.presented = none ∧
    t.eng.begun = false ∧ t.eng.noticeWaiting = false) ∧
  ((∀ i, t.slot i = .freeSlot) ∧ t.cap.cache = [] ∧ t.cap.runEndMark = none ∧ t.cap.cancelling = none) ∧
  (t.fetch.head = 0 ∧ t.fetch.tail = 0 ∧ t.fetch.fetch = .idle ∧ t.fetch.batch = none ∧ t.fetch.rejections = []) ∧
  (t.cmd.head = 0 ∧ t.cmd.tail = 0 ∧ t.cmd.state = .idle ∧ t.cmd.link = .none ∧ t.cmd.current = none ∧
    t.cmd.snapshot = none ∧ t.cmd.held = none) ∧
  (t.evt.tail = 0 ∧ t.evt.head = 0 ∧ t.evt.lapParity = true ∧ t.evt.inFlight = none ∧ t.evt.request = .none ∧
    t.evt.moderation = 0 ∧ t.evt.holdoffTimer = none ∧ t.evt.keptCompletion = none) ∧
  (t.port.grantPointer = .slot 3 ∧ t.port.limitInForce = s.port.limitInForce ∧ (∀ tag, (t.entry tag).isActive = false) ∧
    (∀ tag size e, s.entry tag = .stale size e → t.entry tag = .stale size e) ∧
    ∀ tag size e, t.entry tag = .stale size e →
      s.entry tag = .stale size e ∨ ∃ q, s.entry tag = .active q size e)

theorem State.PassageFrom.entersDisabled {s u : State} (h : s.PassageFrom u) (hno : u.port.someActive = false) :
    s.EntersDisabled u.disabledValues := by
  refine ⟨⟨rfl, rfl, rfl, rfl, rfl⟩, ⟨fun w => tget_replicate _ w, rfl, rfl, rfl, rfl, rfl⟩,
    ⟨fun i => tget_replicate _ i, rfl, rfl, rfl⟩, ⟨rfl, rfl, rfl, rfl, rfl⟩, ⟨rfl, rfl, rfl, rfl, rfl, rfl, rfl⟩,
    ⟨rfl, rfl, rfl, rfl, rfl, rfl, rfl, rfl⟩, rfl, h.limit, MemoryPort.someActive_eq_false.1 hno,
    fun tag size e hs => ?_, fun tag size e ht => ?_⟩
  · obtain hsame | ⟨q, size', e', hactive, -⟩ := h.entries tag
    · exact hsame.trans hs
    · cases hactive.symm.trans hs
  · have ht : u.entry tag = .stale size e := ht
    obtain hsame | ⟨q, size', e', hactive, hfree | hstale⟩ := h.entries tag
    · exact .inl (hsame.symm.trans ht)
    · cases hfree.symm.trans ht
    · cases hstale.symm.trans ht
      exact .inr ⟨q, hactive⟩

theorem State.PassageFrom.entersDisabled_soft {s u : State} (h : s.PassageFrom u) (hno : u.port.someActive = false) :
    s.EntersDisabled u.softResetValues := h.entersDisabled hno

theorem State.passageFrom_left (s : State) {d : DeviceState} (hd : d ≠ .enabled) : s.PassageFrom (s.left d) := by
  rw [s.left_eq hd]
  exact ⟨rfl, rfl, rfl, rfl, rfl, rfl, rfl, fun _ => .inl rfl⟩

theorem State.Absorbed.passageFrom {s u : State} {c : Instr} {q : Requester} {tag : Tag} {size : Nat} {e : Option Tick}
    {x : PortEntry} (h : (s.setEntry tag x).Absorbed u) (he : s.entry tag = .active q size e)
    (hends : EndsEntry c tag size e x) : s.PassageFrom u := by
  have hport := h.port
  rw [State.Absorbed] at h
  have hx : x = .free ∨ x = .stale size e := by
    obtain ⟨-, hx⟩ | ⟨-, d, rfl, hx⟩ := hends
    · exact .inl hx
    · exact .inr hx
  obtain ⟨hreplaced, hothers⟩ : s.EntryReplaced u tag x := State.entryReplaced_of_entries (by rw [hport]; rfl)
  refine ⟨by rw [h]; rfl, by rw [h]; rfl, by rw [h]; rfl, by rw [h]; rfl, by rw [h]; rfl, by rw [h]; rfl,
    by rw [hport]; rfl, fun v => ?_⟩
  by_cases hv : v = tag
  · subst hv
    exact .inr ⟨q, size, e, he, hx.imp hreplaced.trans hreplaced.trans⟩
  · exact .inl (hothers v hv)

theorem exec_of_controlValue {c : Instr} {v : Word} (h : controlValue c = some v) (s : State) :
    exec c s = .next (s.writeControl v) := by
  cases c with
  | enable w | disable w | softReset w =>
    cases Option.some.inj h
    rfl
  | _ => cases h

/-- A write of 1 to CONTROL.RESET that leaves the part DISABLED has passed through RESETTING at once (R174). -/
theorem exec_writesReset_disabled {c : Instr} {s t : State} (hpin : s.resetAsserted = false) (h : exec c s = .next t)
    (hc : writesReset c) (ht : t.ctl.device = .disabled) :
    (s.left .resetting).port.someActive = false ∧ t = (s.left .resetting).softResetValues := by
  obtain ⟨v, hv, hbit⟩ := hc
  have hleft := s.left_device (d := .resetting) (by decide)
  have ht' : t = if s.ctl.device = .resetting then s else (s.left .resetting).endPassage := by
    rw [exec_of_controlValue hv] at h
    rw [← Host.Outcome.next.inj h]
    simp [State.writeControl, hpin, hbit, State.leave_eq]
  split at ht'
  next hd =>
    rw [ht', hd] at ht
    cases ht
  next =>
    obtain ⟨-, hd, -⟩ | ⟨hno, -, he⟩ | ⟨-, he⟩ := (s.left .resetting).endPassage_cases
    · cases hd.symm.trans hleft
    · exact ⟨hno, ht'.trans he⟩
    · rw [ht', he, hleft] at ht
      cases ht

/-- A passage entered or gone on ends, by a disable or a soft reset, from a state that has kept what it is to keep. -/
theorem State.disabled_cases {c : Instr} {s t : State} (hpin : s.resetAsserted = false) (h : exec c s = .next t)
    (ht : t.ctl.device = .disabled) (hno : ¬ s.pinActs c) (hfrom : s.ctl.device ≠ .disabled ∨ writesReset c) :
    ∃ u, s.PassageFrom u ∧ u.port.someActive = false ∧
      (((s.ctl.device = .resetting ∨ writesReset c) ∧ t = u.softResetValues) ∨
        (¬ (s.ctl.device = .resetting ∨ writesReset c) ∧ t = u.disabledValues)) := by
  by_cases hc : writesReset c
  · obtain ⟨hnone, he⟩ := exec_writesReset_disabled hpin h hc ht
    exact ⟨_, s.passageFrom_left (by decide), hnone, .inl ⟨.inr hc, he⟩⟩
  have hfrom : s.ctl.device ≠ .disabled := hfrom.resolve_right hc
  cases (State.event_of_exec h).turn with
  | kept _ hd => exact absurd (hd.symm.trans ht) hfrom
  | started v _ _ hd => exact absurd hd hfrom
  | setUp tag size e x b _ _ _ => cases ht
  | faulted code u _ => cases (u.enterFaulted_device code).symm.trans ht
  | reset v hv h1 _ => exact absurd ⟨v, hv, h1⟩ hc
  | pin level hp => exact absurd hp hno
  | disabled v hv _ hd =>
    have hleft := s.left_device (d := .stopping) (by decide)
    have hsoft : ¬ (s.ctl.device = .resetting ∨ writesReset c) := fun e => by
      obtain e | e := e
      · simp [e] at hd
      · exact hc e
    obtain ⟨hnone, -, he⟩ | ⟨-, hr, -⟩ | ⟨-, he⟩ := (s.left .stopping).endPassage_cases
    · exact ⟨_, s.passageFrom_left (by decide), hnone, .inr ⟨hsoft, he⟩⟩
    · cases hr.symm.trans hleft
    · rw [he, hleft] at ht
      cases ht
  | ended q tag size e x u hd he hends hu =>
    have hdev : u.ctl.device = s.ctl.device := hu.device
    obtain ⟨hnone, hs, hend⟩ | ⟨hnone, hr, hend⟩ | ⟨-, hend⟩ := u.endPassage_cases
    · refine ⟨u, hu.passageFrom he hends, hnone, .inr ⟨fun h => ?_, hend⟩⟩
      obtain h | h := h
      · cases (hdev.symm.trans hs).symm.trans h
      · exact hc h
    · exact ⟨u, hu.passageFrom he hends, hnone, .inl ⟨.inl (hdev.symm.trans hr), hend⟩⟩
    · rw [hend] at ht
      exact absurd (hdev.symm.trans ht) hfrom

/-- Settles O53: a passage that ends, ends from a state that has kept what it is to keep. -/
theorem passageEnded : Obligations.PassageEnded := by
  intro c s t hpin h ht hno hfrom soft
  obtain ⟨u, hu, hnone, ⟨hsoft, rfl⟩ | ⟨hsoft, rfl⟩⟩ := State.disabled_cases hpin h ht hno hfrom
  · exact ⟨⟨rfl, rfl⟩, fun _ => ⟨rfl, rfl, rfl, rfl, rfl, rfl⟩, fun hn => absurd hsoft hn, hu.entersDisabled_soft hnone⟩
  · exact ⟨⟨rfl, rfl⟩, fun hs => absurd hs hsoft,
      fun _ => ⟨hu.address, hu.setup, hu.code, hu.multi, hu.tick, by rw [← hu.interrupt]; rfl⟩, hu.entersDisabled hnone⟩

end Sys2Proof.Machine
end

/-! PROOFS. Leaving ENABLED (chapter 9): the presented sample closed (R50), what a CONTROL write enters (O52), and the freeze
in FAULTED (O55). -/

section
namespace Sys2Proof.Machine

/-! ### The presented sample is closed -/

/-- Each watch of a list that asks for a capture is counted missed once (R36). -/
theorem foldl_countMissed {ws : List WatchId} (hws : ws.Nodup) (v : Vector Watch 64) (w : WatchId) :
    tget (ws.foldl (fun v w => if (tget v w).config.capture then tset v w (tget v w).countMissed else v) v) w =
      if w ∈ ws ∧ (tget v w).config.capture = true then (tget v w).countMissed else tget v w := by
  induction ws generalizing v with
  | nil => simp
  | cons x rest ih =>
    obtain ⟨hx, hrest⟩ := List.nodup_cons.1 hws
    rw [List.foldl_cons, ih hrest]
    by_cases hwx : w = x
    · subst hwx
      rw [if_neg fun e => hx e.1]
      split
      next hc => rw [tget_tset_same, if_pos ⟨List.mem_cons_self .., hc⟩]
      next hc => rw [if_neg fun e => hc e.2]
    · have hsame : tget (if (tget v x).config.capture then tset v x (tget v x).countMissed else v) w = tget v w := by
        split
        · exact tget_tset_other _ _ hwx
        · rfl
      rw [hsame]
      simp only [List.mem_cons, hwx, false_or]

theorem State.makeCaptureRequests_withEng_refused {s : State} (hd : s.ctl.device ≠ .enabled) (p : PresentedSample)
    (ws : List WatchId) (e : WatchEngine) :
    State.makeCaptureRequests p ws (s.withEng e) =
      s.withEng
        { e with
          watches := ws.foldl
            (fun v w => if (tget v w).config.capture then tset v w (tget v w).countMissed else v) e.watches } :=
  State.makeCaptureRequests_refused p ws (s.withEng e) hd

/-- Outside ENABLED an evaluation counts every capture request as missed, and nothing else follows it (R50, R70). -/
theorem State.evaluateSample_refused {s : State} (hd : s.ctl.device ≠ .enabled) (ha : s.acq.state = .idle)
    (p : PresentedSample) :
    ∃ v, (s.evaluateSample p).eng =
        { ({ s.eng.evaluateAll p with watches := v } : WatchEngine).succeedAll (firedSet s.eng.watches p) s.tick
            p.number with presented := none, begun := false } ∧
      ∀ w, tget v w = { (s.watch w).evaluate p with
        missed := if (s.watch w).fires p.data = true ∧ (s.watch w).config.capture = true
          then oneMoreMissed (s.watch w).missed else (s.watch w).missed } := by
  obtain ⟨v, hreq, hv⟩ : ∃ v, s.requested p = s.withEng { s.eng.evaluateAll p with watches := v } ∧
      v = (firedSet s.eng.watches p).foldl
        (fun v w => if (tget v w).config.capture then tset v w (tget v w).countMissed else v)
          (s.eng.evaluateAll p).watches :=
    ⟨_, State.makeCaptureRequests_withEng_refused hd p (firedSet s.eng.watches p) (s.eng.evaluateAll p), rfl⟩
  refine ⟨v, ?_, fun w => ?_⟩
  · rw [s.evaluateSample_eq, State.closeSample_idle (by rw [s.beforeClose_acq, ha]), s.beforeClose_eq, hreq,
      State.checkStart_of_left (by exact hd)]
    rfl
  · rw [hv, foldl_countMissed (firedSet_nodup _ _), WatchEngine.evaluateAll_watch, Watch.evaluate_config,
      Watch.countMissed_eq, Watch.evaluate_missed]
    by_cases h : (s.watch w).fires p.data = true ∧ (s.watch w).config.capture = true
    · rw [if_pos (by exact ⟨mem_firedSet.2 h.1, h.2⟩), if_pos h]
      rfl
    · rw [if_neg (by exact fun e => h ⟨mem_firedSet.1 e.1, e.2⟩), if_neg h,
        ← show ((s.watch w).evaluate p).missed = (s.watch w).missed from Watch.evaluate_missed p _]
      rfl

/-- The presented sample when every block stops (R50). -/
theorem State.sampleClosed_of_stopBlocks {s t : State} {d : DeviceState} (hd : d ≠ .enabled)
    (ht : t.eng = (s.stopBlocks d).eng) : s.SampleClosed t := by
  obtain ⟨u, hu, heng, htick, hdev, hacq⟩ : ∃ u : State, s.stopBlocks d = u.closePresented ∧ u.eng = s.eng ∧
      u.tick = s.tick ∧ u.ctl.device ≠ .enabled ∧ u.acq.state = .idle := ⟨_, rfl, rfl, rfl, hd, rfl⟩
  rw [hu, State.closePresented, heng] at ht
  refine ⟨fun h => ?_, fun p hp hb => ?_⟩
  · cases hp : s.eng.presented with
    | none =>
      rw [hp] at ht
      rw [ht, heng, ← hp]
    | some p =>
      have hb : s.eng.begun = false := h.resolve_left (by simp [hp])
      rw [hp] at ht
      dsimp only at ht
      rw [if_neg (by simp [hb])] at ht
      exact ht
  · rw [hp] at ht
    simp only [hb, if_true] at ht
    obtain ⟨v, he, hv⟩ := State.evaluateSample_refused hdev hacq p
    rw [heng, htick] at he
    have hwatch (w : WatchId) : u.watch w = s.watch w := by rw [State.watch, heng]; rfl
    simp only [hwatch] at hv
    exact State.evaluated_of_watches hv (ht.trans he)

/-! ### CONTROL writes -/

theorem State.stop_slot (s : State) (i : SlotId) :
    tget s.cap.stop.slots i = { s.slot i with requestStanding := false } :=
  tget_tmap _ _ _

theorem State.left_someActive (s : State) {d : DeviceState} (hd : d ≠ .enabled) :
    (s.left d).port.someActive = s.port.someActive := by
  rw [s.left_eq hd]

/-- A CONTROL write that leaves ENABLED, STARTING or FAULTED: the passage goes on while an entry is ACTIVE, and ends at once
otherwise (R173, R174). -/
theorem State.left_endPassage {s : State} {d : DeviceState} (hd : d = .stopping ∨ d = .resetting) :
    (s.port.someActive = false →
      (s.left d).endPassage.ctl.device = .disabled ∧ (s.left d).endPassage.ctl.enable = false) ∧
    (s.port.someActive = true → (s.left d).endPassage = s.left d) := by
  have hne : d ≠ .enabled := by obtain rfl | rfl := hd <;> decide
  have hsame := s.left_someActive hne
  refine ⟨fun h => ?_, fun h => State.endPassage_of_someActive (hsame.trans h)⟩
  obtain rfl | rfl := hd
  · rw [State.endPassage_of_stopping (s.left_device hne) (hsame.trans h)]
    exact ⟨rfl, rfl⟩
  · rw [State.endPassage_of_resetting (s.left_device hne) (hsame.trans h)]
    exact ⟨rfl, rfl⟩

/-- Settles O52: the two bits written and the device state decide what is entered. -/
theorem controlWritten : Obligations.ControlWritten := by
  intro s v hpin leaves
  have hexec : exec (.softReset v) s = .next (s.writeControl v) := rfl
  have left {d : DeviceState} (hd : d = .stopping ∨ d = .resetting) (h : s.writeControl v = s.leave d) : leaves d := by
    have hne : d ≠ .enabled := by obtain rfl | rfl := hd <;> decide
    obtain ⟨hends, hstays⟩ := s.left_endPassage hd
    refine ⟨_, hexec.trans (congrArg Host.Outcome.next (h.trans (s.leave_eq d))), hends, fun hactive => ?_⟩
    rw [hstays hactive]
    refine ⟨fun i => ?_, State.sampleClosed_of_stopBlocks hne rfl, ?_⟩
    · rw [s.left_eq hne]
      exact s.stop_slot i
    · rw [s.left_eq hne]
      rfl
  refine ⟨⟨rfl, rfl⟩, ?_, fun h1 hd => left (.inr rfl) ?_, fun h1 hd => ?_, fun h1 h0 => ⟨fun hd => ?_, fun hd => ?_⟩,
    fun h1 h0 => ⟨fun hd => left (.inl rfl) ?_, fun hd => ?_⟩⟩
  · simp only [State.readRegister, hpin]
    cases s.ctl.enable <;> rfl
  · simp only [State.writeControl, hpin, h1, hd, if_true, if_false, Bool.false_eq_true]
  · simp only [hexec, State.writeControl, hpin, h1, hd, if_true, if_false, Bool.false_eq_true]
  · have hw : s.writeControl v = s.enterStarting := by
      simp only [State.writeControl, hpin, h1, h0, hd, if_true, if_false, Bool.false_eq_true]
    exact congrArg Host.Outcome.next hw
  · simp only [hexec, State.writeControl, hpin, h1, h0, hd, if_true, if_false, Bool.false_eq_true]
  · obtain hd | hd | hd := hd
    all_goals simp only [State.writeControl, hpin, h1, h0, hd, if_false, Bool.false_eq_true]
  · obtain hd | hd | hd := hd
    all_goals simp only [hexec, State.writeControl, hpin, h1, h0, hd, if_false, Bool.false_eq_true]

end Sys2Proof.Machine
end

/-! PROOFS. FAULTED (chapter 9): its entry, and the freeze (O55); the holdoff timer (O39); and which commands issue requests
and change the Request Table (O50). -/

section
namespace Sys2Proof.Machine

/-! ### The Request Table -/

theorem EndsEntry.entriesKept {s t : State} {c : Instr} {q : Requester} {tag : Tag} {size : Nat} {e : Option Tick}
    {x : PortEntry} (he : s.entry tag = .active q size e) (hends : EndsEntry c tag size e x)
    (ht : t.port.entries = tset s.port.entries tag x) : s.EntriesKept t c := by
  obtain ⟨hsame, hothers⟩ := State.entryReplaced_of_entries ht
  intro u
  by_cases hu : u = tag
  · subst hu
    obtain ⟨hc, rfl⟩ | ⟨hc, d, rfl, rfl⟩ := hends
    · exact .inr (.inl ⟨hc, hsame⟩)
    · exact .inr (.inr ⟨hc, q, size, d, he, hsame⟩)
  · exact .inl (hothers u hu)

theorem State.EntriesKept.of_late {s t : State} {c : Instr} {tag : Tag} (hc : answeredTag c = some tag)
    (ht : t.port.entries = tset s.port.entries tag .free) : s.EntriesKept t c := by
  obtain ⟨hsame, hothers⟩ := State.entryReplaced_of_entries ht
  intro u
  by_cases hu : u = tag
  · subst hu
    exact .inr (.inl ⟨hc, hsame⟩)
  · exact .inl (hothers u hu)

theorem State.EntriesKept.of_same {s t : State} {c : Instr} (ht : t.port.entries = s.port.entries) : s.EntriesKept t c :=
  fun _ => .inl (by rw [State.entry, ht]; rfl)

/-! ### The entry into FAULTED -/

namespace State.Faulting

variable {s u : State} {c : Instr} {code : FaultCode}

theorem device (h : s.Faulting c code u) : s.ctl.device = .starting ∨ s.ctl.device = .enabled := by
  cases h with
  | setup _ _ _ _ _ hd => exact .inl hd
  | command _ _ _ _ hd | fetcher _ _ _ _ hd | writer _ _ _ _ hd | range _ hd => exact .inr hd

theorem code_ne_none (h : s.Faulting c code u) : code ≠ .none := by
  cases h with
  | setup _ _ _ _ _ _ _ _ hcode => obtain rfl | rfl := hcode <;> decide
  | command | fetcher | writer => decide
  | range _ _ hw => obtain ⟨v, -, rfl⟩ | ⟨v, -, rfl⟩ | ⟨v, -, rfl⟩ := hw <;> decide

/-- What the entry into FAULTED leaves of every block (R176). -/
theorem frame (h : s.Faulting c code u) :
    let t := u.enterFaulted code
    t = { s with
      ctl :=
        { s.ctl with
          device := .faulted, faultCode := t.ctl.faultCode, multi := false, setupRequest := t.ctl.setupRequest }
      acq := { s.acq with state := .idle, heldStart := false }
      eng := t.eng
      cap := { s.cap with slots := t.cap.slots, cancelling := none }
      fetch := { s.fetch with fetch := t.fetch.fetch, batch := t.fetch.batch }
      cmd := { s.cmd with state := .idle, link := t.cmd.link, current := none, snapshot := none, held := none }
      evt :=
        { s.evt with
          inFlight := t.evt.inFlight, request := t.evt.request, holdoffTimer := none
          keptCompletion := s.cmd.held.or s.evt.keptCompletion
          interrupt := { s.evt.interrupt with fault := true } }
      port := { s.port with entries := t.port.entries } } := by
  intro t
  have ht : t = u.enterFaulted code := rfl
  rw [u.enterFaulted_eq] at ht
  rw [ht]
  cases h <;> rfl

theorem sampleClosed (h : s.Faulting c code u) : s.SampleClosed (u.enterFaulted code) := by
  have hclosed : u.SampleClosed (u.enterFaulted code) :=
    State.sampleClosed_of_stopBlocks (d := .faulted) (by decide) (by rw [u.enterFaulted_eq])
  cases h <;> exact hclosed

theorem entriesKept (h : s.Faulting c code u) : s.EntriesKept (u.enterFaulted code) c := by
  have hentries := u.enterFaulted_entries code
  cases h with
  | setup _ tag _ _ _ _ he hends | command tag _ _ _ _ he hends | fetcher tag _ _ _ _ he hends
  | writer tag _ _ _ _ he hends => exact hends.entriesKept he hentries
  | range => exact .of_same hentries

theorem slot (h : s.Faulting c code u) (i : SlotId) :
    (u.enterFaulted code).slot i = { s.slot i with requestStanding := false } := by
  have hslot : (u.enterFaulted code).slot i = { u.slot i with requestStanding := false } := by
    rw [u.enterFaulted_eq]
    exact u.stop_slot i
  cases h <;> exact hslot

theorem ended (h : s.Faulting c code u) :
    let t := u.enterFaulted code
    (t.ctl.setupRequest = (if s.ctl.setupRequest = .outstanding then .outstanding else .none) ∨
      (s.EndedFor t .control ∧ t.ctl.setupRequest = .none)) ∧
    (t.cmd.link = (if s.cmd.link = .outstanding then .outstanding else .none) ∨
      (s.EndedFor t .command ∧ t.cmd.link = .none)) ∧
    (t.fetch = { s.fetch with fetch := if s.fetch.fetch = .reading then .reading else .idle } ∨
      (s.EndedFor t .fetcher ∧ t.fetch = { s.fetch with fetch := .idle, batch := none })) ∧
    ((t.evt.request = (if s.evt.request = .outstanding then .outstanding else .none) ∧
        t.evt.inFlight = if s.evt.request = .outstanding then s.evt.inFlight else none) ∨
      (s.EndedFor t .writer ∧ t.evt.request = .none ∧ t.evt.inFlight = none)) := by
  have hentries := u.enterFaulted_entries code
  intro t
  have ht : t = u.enterFaulted code := rfl
  rw [← ht] at hentries
  rw [u.enterFaulted_eq] at ht
  cases h with
  | setup _ tag _ _ _ _ he hends =>
    exact ⟨.inr ⟨.of_replaced he hends hentries, by rw [ht]; rfl⟩, .inl (by rw [ht]; rfl), .inl (by rw [ht]; rfl),
      .inl ⟨by rw [ht]; rfl, by rw [ht]; rfl⟩⟩
  | command tag _ _ _ _ he hends =>
    exact ⟨.inl (by rw [ht]; rfl), .inr ⟨.of_replaced he hends hentries, by rw [ht]; rfl⟩, .inl (by rw [ht]; rfl),
      .inl ⟨by rw [ht]; rfl, by rw [ht]; rfl⟩⟩
  | fetcher tag _ _ _ _ he hends =>
    exact ⟨.inl (by rw [ht]; rfl), .inl (by rw [ht]; rfl), .inr ⟨.of_replaced he hends hentries, by rw [ht]; rfl⟩,
      .inl ⟨by rw [ht]; rfl, by rw [ht]; rfl⟩⟩
  | writer tag _ _ _ _ he hends =>
    exact ⟨.inl (by rw [ht]; rfl), .inl (by rw [ht]; rfl), .inl (by rw [ht]; rfl),
      .inr ⟨.of_replaced he hends hentries, by rw [ht]; rfl, by rw [ht]; rfl⟩⟩
  | range =>
    exact ⟨.inl (by rw [ht]), .inl (by rw [ht]; rfl), .inl (by rw [ht]; rfl), .inl ⟨by rw [ht]; rfl, by rw [ht]; rfl⟩⟩

end State.Faulting

/-- A part that becomes FAULTED has a cause (R175). -/
theorem State.faulting_of_exec {c : Instr} {s t : State} (h : exec c s = .next t) (hs : s.ctl.device ≠ .faulted)
    (ht : t.ctl.device = .faulted) : ∃ code u, s.Faulting c code u ∧ t = u.enterFaulted code := by
  have passing {u : State} {d : DeviceState} (hu : u.ctl.device = d) (hd : d ≠ .faulted)
      (ht : u.endPassage.ctl.device = .faulted) : False := by
    obtain e | e := u.endPassage_device
    · exact hd (hu.symm.trans (e.symm.trans ht))
    · cases e.symm.trans ht
  cases (State.event_of_exec h).turn with
  | kept _ hd => exact absurd (hd.symm.trans ht) hs
  | started _ _ _ _ => cases ht
  | setUp _ _ _ _ _ _ _ _ => cases ht
  | faulted code u hf => exact ⟨code, u, hf, rfl⟩
  | reset _ _ _ _ => exact (passing (s.left_device (by decide)) (by decide) ht).elim
  | disabled _ _ _ _ => exact (passing (s.left_device (by decide)) (by decide) ht).elim
  | ended _ _ _ _ _ u hd _ _ hu =>
    exact (passing hu.device (by obtain hd | hd := hd <;> simp [hd]) ht).elim
  | pin _ _ => cases ht

/-! ### The freeze in FAULTED -/

/-- What a command can do in FAULTED, but a CONTROL write and the reset pin (R176). -/
inductive State.Frozen (s : State) (c : Instr) : State → Prop
  | stays : s.Frozen c s
  | ticked : s.Frozen c (s.withTick (s.tick + 1))
  | interrupt (x : Interrupt) : s.Frozen c (s.withEvt { s.evt with interrupt := x })
  | late (tag : Tag) : answeredTag c = some tag → s.Frozen c (s.setEntry tag .free)
  | control (tag : Tag) (size : Nat) (e : Option Tick) (x : PortEntry) : s.entry tag = .active .control size e →
      EndsEntry c tag size e x → s.Frozen c ((s.setEntry tag x).withCtl { s.ctl with setupRequest := .none })
  | command (tag : Tag) (size : Nat) (e : Option Tick) (x : PortEntry) : s.entry tag = .active .command size e →
      EndsEntry c tag size e x → s.Frozen c ((s.setEntry tag x).withCmd { s.cmd with link := .none })
  | fetcher (tag : Tag) (size : Nat) (e : Option Tick) (x : PortEntry) : s.entry tag = .active .fetcher size e →
      EndsEntry c tag size e x → s.Frozen c ((s.setEntry tag x).withFetch { s.fetch with fetch := .idle, batch := none })
  | written (tag : Tag) (size : Nat) (e : Option Tick) (x : PortEntry) : s.entry tag = .active .writer size e →
      EndsEntry c tag size e x → s.Frozen c ((s.setEntry tag x).withEvt s.evt.advance)
  | writeFailed (tag : Tag) (size : Nat) (e : Option Tick) (x : PortEntry) : s.entry tag = .active .writer size e →
      EndsEntry c tag size e x →
      s.Frozen c
        ((((s.setEntry tag x).withEvt { s.evt with inFlight := none, request := .none }).setFault).withCtl
          { s.ctl with multi := true })
  | burst (i : SlotId) (tag : Tag) (size : Nat) (e : Option Tick) (x : PortEntry) (ans : Answer) :
      s.entry tag = .active (.slot i) size e → EndsEntry c tag size e x →
      s.Frozen c ((s.setEntry tag x).setSlot i ((s.slot i).onResponseFaulted tag ans))

/-- In FAULTED an answer changes its owner's request, the event written, or a burst record. -/
theorem State.Delivered.frozen {s t : State} {c : Instr} {tag : Tag} {ans : Answer} {data : ReadData} {q : Requester}
    {size : Nat} {e : Option Tick} {x : PortEntry} (hd : s.ctl.device = .faulted)
    (he : s.entry tag = .active q size e) (hends : EndsEntry c tag size e x)
    (h : (s.setEntry tag x).Delivered tag ans data q t) : s.Frozen c t.endPassage := by
  have stays {u : State} (hu : u.ctl.device = s.ctl.device) (h : s.Frozen c u) : s.Frozen c u.endPassage := by
    rwa [State.endPassage_of_not_passing (by simp [hu, hd]) (by simp [hu, hd])]
  have away {d : DeviceState} (he : s.ctl.device = d) (hne : d ≠ .faulted) : s.Frozen c t.endPassage :=
    absurd (he.symm.trans hd) hne
  cases h with
  | setupAbsorbed _ => exact stays rfl (.control tag size e x he hends)
  | commandAbsorbed _ => exact stays rfl (.command tag size e x he hends)
  | batchAbsorbed _ => exact stays rfl (.fetcher tag size e x he hends)
  | eventWrittenFaulted _ _ => exact stays rfl (.written tag size e x he hends)
  | eventFailedFaulted _ _ => exact stays rfl (.writeFailed tag size e x he hends)
  | burstAnsweredFaulted i _ => exact stays rfl (.burst i tag size e x ans he hends)
  | eventAbsorbed _ hf => exact absurd hd hf
  | burstAnsweredLeaving i h => obtain h | h := h <;> exact away h (by decide)
  | burstDropped i h => obtain h | h := h <;> exact away h (by decide)
  | setupFailed _ h | setupTaken h | recordTaken h | recordFailed h | snapshotAnswered h | batchTaken _ h
  | batchFailed _ h | eventWritten h | eventFailed h | burstAnswered _ h => exact away h (by decide)

theorem State.Event.frozen {s t : State} {c : Instr} (h : s.Event c t) (hd : s.ctl.device = .faulted)
    (hc : controlValue c = none) (hpin : ¬ s.pinActs c) : s.Frozen c t := by
  have away {d : DeviceState} (he : s.ctl.device = d) (hne : d ≠ .faulted) : s.Frozen c t :=
    absurd (he.symm.trans hd) hne
  have undispatched {k : CommandKind} {cur : CurrentCommand} (h : s.dispatched k = some cur) : s.Frozen c t :=
    away (State.dispatched_eq_some.1 h).1 (by decide)
  have unwatched {k : CommandKind} {cur : CurrentCommand} {w : WatchId} (h : s.dispatchedWatch k = some (cur, w)) :
      s.Frozen c t := undispatched (State.dispatchedWatch_eq_some.1 h).2.1
  cases h with
  | stays => exact .stays
  | lateTaken _ tag size e hans _ => exact .late tag hans
  | entryEnded _ q tag size e x ans data u he hends hu => exact hu.frozen hd he hends
  | interruptWritten v => exact .interrupt _
  | ticked _ =>
    obtain ⟨p, -, he, -⟩ | ⟨-, he⟩ := s.endDueEvaluation_cases
    · exact away he (by decide)
    · rw [he]
      exact .ticked
  | arrived word h => exact away (State.acceptsEdge_iff.1 h).1 (by decide)
  | evaluated p h | evaluationBegun p h | noticeTaken h | expiryRaised w h | windowEnded w h | holdoffEnded e h
  | rangeFault _ _ h | cqTailRaised v h | bqTailRaised v h | eqHeadMoved v h => exact away h (by decide)
  | refused _ k cur st _ _ _ h | startHeld _ cur h | stopped cur h | cancelTaken cur named h => exact undispatched h
  | loaded cur w cfg h | armed cur w h | disarmed cur w h | freed cur w h | snapshotTaken cur w h => exact unwatched h
  | startTaken h => exact away ((State.startReady_iff s).1 h).1 (by decide)
  | granted q tag h => obtain h | h := h <;> exact away h (by decide)
  | chosen x h => exact away (State.mayChoose_iff.1 h).1 (by decide)
  | setupAddressWritten reg v a h => exact away h (by decide)
  | enabledWritten _ v hv | resetWritten _ v hv | disabledWritten _ v hv => cases hc.symm.trans hv
  | pinMoved _ level hp => exact absurd hp hpin

/-- An answer marks a record of its own tag only, and its answer only (R80, R94). -/
theorem markBurst_unanswered (tag : Tag) (ans : Answer) (l : List BurstRecord) :
    (markBurst tag ans l).map (fun b => if b.tag = tag then { b with answer := .waiting } else b) =
      l.map fun b => if b.tag = tag then { b with answer := .waiting } else b := by
  induction l with
  | nil => rfl
  | cons b rest ih =>
    rw [markBurst]
    split
    next h => simp [h.1]
    next => rw [List.map_cons, List.map_cons, ih]

/-- Settles O55: the entry into FAULTED by its cause, and in FAULTED each thing that can happen. -/
theorem faultedFreezes : Obligations.FaultedFreezes := by
  refine ⟨fun c s t h hs ht => ?_, fun c s t h hd hc hpin => ?_⟩
  · obtain ⟨code, u, hf, rfl⟩ := State.faulting_of_exec h hs ht
    exact ⟨hf.device, by rw [u.enterFaulted_code]; exact hf.code_ne_none, hf.frame, hf.sampleClosed, hf.entriesKept,
      hf.slot, hf.ended⟩
  · cases (State.event_of_exec h).frozen hd hc hpin with
    | stays =>
      exact ⟨rfl, .of_same rfl, .inl rfl, .inl rfl, .inl rfl, .inl rfl, .inl rfl, fun i => .inl rfl⟩
    | ticked =>
      exact ⟨rfl, .of_same rfl, .inl rfl, .inl rfl, .inl rfl, .inl rfl, .inl rfl, fun i => .inl rfl⟩
    | interrupt x =>
      exact ⟨rfl, .of_same rfl, .inl rfl, .inl rfl, .inl rfl, .inl rfl, .inl rfl, fun i => .inl rfl⟩
    | late tag hans =>
      exact ⟨rfl, .of_late hans rfl, .inl rfl, .inl rfl, .inl rfl, .inl rfl, .inl rfl, fun i => .inl rfl⟩
    | control tag size e x he hends =>
      exact ⟨rfl, hends.entriesKept he rfl, .inl rfl, .inr ⟨.of_replaced he hends rfl, rfl⟩, .inl rfl, .inl rfl, .inl rfl,
        fun i => .inl rfl⟩
    | command tag size e x he hends =>
      exact ⟨rfl, hends.entriesKept he rfl, .inl rfl, .inl rfl, .inl rfl, .inr ⟨.of_replaced he hends rfl, rfl⟩, .inl rfl,
        fun i => .inl rfl⟩
    | fetcher tag size e x he hends =>
      exact ⟨rfl, hends.entriesKept he rfl, .inl rfl, .inl rfl, .inr ⟨.of_replaced he hends rfl, rfl⟩, .inl rfl, .inl rfl,
        fun i => .inl rfl⟩
    | written tag size e x he hends =>
      exact ⟨rfl, hends.entriesKept he rfl, .inl rfl, .inl rfl, .inl rfl, .inl rfl,
        .inr ⟨.of_replaced he hends rfl, rfl, rfl, .inr ⟨rfl, rfl⟩⟩, fun i => .inl rfl⟩
    | writeFailed tag size e x he hends =>
      exact ⟨rfl, hends.entriesKept he rfl, .inr ⟨.of_replaced he hends rfl, rfl⟩, .inl rfl, .inl rfl, .inl rfl,
        .inr ⟨.of_replaced he hends rfl, rfl, rfl, .inl ⟨rfl, rfl⟩⟩, fun i => .inl rfl⟩
    | burst i tag size e x ans he hends =>
      refine ⟨rfl, hends.entriesKept he rfl, .inl rfl, .inl rfl, .inl rfl, .inl rfl, .inl rfl, fun j => ?_⟩
      rw [State.setSlot_slot]
      split
      next hj =>
        subst hj
        obtain ⟨htag, -⟩ := State.entryReplaced_of_entries (s := s) (tag := tag) (x := x)
          (t := (s.setEntry tag x).setSlot j ((s.slot j).onResponseFaulted tag ans)) rfl
        exact .inr ⟨tag, size, e, he, by rw [htag]; exact hends.not_active, rfl, markBurst_unanswered tag ans _⟩
      next => exact .inl rfl

/-! ### The holdoff timer -/

/-- Leaving ENABLED stops the holdoff timer, without an expiry (R124, R130, R131). -/
theorem State.left_holdoff (s : State) {d : DeviceState} (hd : d ≠ .enabled) :
    (s.left d).evt.holdoffTimer = none ∧ (s.left d).evt.interrupt.events = s.evt.interrupt.events := by
  rw [s.left_eq hd]
  exact ⟨rfl, rfl⟩

/-- Settles O39: the timer's own event, and what stops it when the part leaves ENABLED. -/
theorem holdoffExpiryTaken : Obligations.HoldoffExpiryTaken := by
  refine ⟨fun c s t hd h ht => ?_, fun s => ?_⟩
  · have passing {u : State} (hu : u.endPassage.ctl.device ≠ .disabled)
        (hsame : u.evt.holdoffTimer = none ∧ u.evt.interrupt.events = s.evt.interrupt.events) :
        u.endPassage.evt.holdoffTimer = none ∧ u.endPassage.evt.interrupt.events = s.evt.interrupt.events := by
      obtain ⟨-, -, he⟩ | ⟨-, -, he⟩ | ⟨-, he⟩ := u.endPassage_cases
      · exact absurd (by rw [he]; rfl) hu
      · exact absurd (by rw [he]; rfl) hu
      · rwa [he]
    have hne : t.ctl.device ≠ .disabled := by obtain ht | ht | ht := ht <;> simp [ht]
    cases (State.event_of_exec h).turn with
    | kept _ hsame => simp [hsame, hd] at ht
    | started _ _ _ hdis => cases hd.symm.trans hdis
    | setUp _ _ _ _ _ hstart => cases hd.symm.trans hstart
    | faulted code u hf =>
      rw [hf.frame]
      exact ⟨rfl, rfl⟩
    | reset => exact passing hne (s.left_holdoff (by decide))
    | disabled => exact passing hne (s.left_holdoff (by decide))
    | ended _ _ _ _ _ _ hpass => simp [hd] at hpass
    | pin level _ => exact absurd rfl hne
  · intro due
    refine ⟨fun hd hdue hm => ?_, fun hd hdue => ?_, fun hno => ?_⟩
    · obtain ⟨e, he, -⟩ := hdue
      obtain ⟨-, hcount⟩ := hm hd
      exact (hcount (by simp [he])).1
    · obtain ⟨e, he, hdue⟩ := hdue
      simp only [exec, execHoldoffExpiry, he]
      rw [if_pos ⟨hd, decide_eq_true hdue⟩]
      by_cases hm : 0 < s.evt.moderation
      · simp only [hm, decide_true, Bool.or_true, if_true]
        rfl
      · simp only [hm, decide_false, Bool.or_false, if_false]
        rfl
    · simp only [exec, execHoldoffExpiry]
      cases he : s.evt.holdoffTimer with
      | none => rfl
      | some e => exact congrArg _ (if_neg fun h => hno ⟨h.1, e, he, of_decide_eq_true h.2⟩)

/-! ### What issues requests -/

theorem State.checkStart_port (s : State) : s.checkStart.port = s.port := by rw [s.checkStart_frame]

theorem State.checkCommandFetch_port (s : State) : s.checkCommandFetch.port = s.port := by rw [s.checkCommandFetch_frame]; rfl

theorem State.checkBufferFetch_port (s : State) : s.checkBufferFetch.port = s.port := by rw [s.checkBufferFetch_eq]; rfl

theorem State.evaluateSample_port (s : State) (p : PresentedSample) : (s.evaluateSample p).port = s.port := by
  rw [s.evaluateSample_eq, State.closeSample_eq, State.checkStart_port]
  show (s.evaluated p).port = _
  rw [s.evaluated_frame p]

theorem State.endDueEvaluation_port (s : State) : s.endDueEvaluation.port = s.port := by
  obtain ⟨p, -, -, -, h⟩ | ⟨-, h⟩ := s.endDueEvaluation_cases
  · rw [h, State.evaluateSample_port]
    split
    · exact State.withEng_port s _
    · rfl
  · rw [h]

theorem State.choose_port (s : State) (x : EventContent) : (s.choose x).port = s.port := by
  rw [State.choose, State.withEvt_port]
  cases x with
  | captureDone d => rw [State.itemChosen, State.captureDoneChosen_frame]
  | acqHalt h => rw [State.itemChosen, State.checkStart_port]; rfl
  | cmdDone d => rfl
  | bufferReject r => rw [State.itemChosen, State.checkBufferFetch_port]; rfl
  | watchReport r => rfl

/-- An answer at its owner leaves the Request Table and the requests issued. -/
theorem State.Delivered.port {s t : State} {tag : Tag} {ans : Answer} {data : ReadData} {q : Requester}
    (h : s.Delivered tag ans data q t) : t.port.entries = s.port.entries ∧ t.port.issued = s.port.issued := by
  have same {u : State} (hu : u.port = s.port) : u.port.entries = s.port.entries ∧ u.port.issued = s.port.issued := by
    rw [hu]
    exact ⟨rfl, rfl⟩
  cases h with
  | setupFailed code _ _ => exact same (by rw [State.enterFaulted_eq]; rfl)
  | recordFailed _ _ _ => exact same (by rw [State.enterFaulted_eq]; rfl)
  | batchFailed b _ _ _ => exact same (by rw [State.enterFaulted_eq]; rfl)
  | eventFailed _ _ => exact same (by rw [State.enterFaulted_eq]; rfl)
  | batchTaken b _ _ _ => exact same (by rw [State.bqRead_ok_frame])
  | eventWritten _ _ => exact same (by rw [State.eqWritten_ok_frame])
  | burstAnswered i _ => exact same (by rw [State.checkStart_port]; rfl)
  | _ => exact ⟨rfl, rfl⟩

theorem State.endPassage_issued (s : State) : s.endPassage.port.issued = s.port.issued := by
  obtain ⟨-, -, h⟩ | ⟨-, -, h⟩ | ⟨-, h⟩ := s.endPassage_cases <;> rw [h] <;> rfl

/-- What an event does to the requests issued and to the Request Table (R152, R155, R157, R161). -/
theorem State.Event.issued {s t : State} {c : Instr} (h : s.Event c t) (hpin : ¬ s.pinActs c) :
    (t.port.issued = s.port.issued ∧ s.EntriesKept t c) ∨
      (c = .grant ∧ ∃ req, t.port.issued = s.port.issued ++ [req] ∧ s.entry req.tag = .free) := by
  have same {u : State} (hu : u.port = s.port) : (u.port.issued = s.port.issued ∧ s.EntriesKept u c) ∨
      (c = .grant ∧ ∃ req, u.port.issued = s.port.issued ++ [req] ∧ s.entry req.tag = .free) :=
    .inl ⟨by rw [hu], .of_same (by rw [hu])⟩
  have left {d : DeviceState} (hd : d ≠ .enabled) : ((s.left d).endPassage.port.issued = s.port.issued ∧
      s.EntriesKept (s.left d).endPassage c) ∨ (c = .grant ∧
        ∃ req, (s.left d).endPassage.port.issued = s.port.issued ++ [req] ∧ s.entry req.tag = .free) := by
    have hport : (s.left d).port = s.port := by rw [s.left_eq hd]
    exact .inl ⟨by rw [State.endPassage_issued, hport], .of_same (by rw [State.endPassage_entries, hport])⟩
  cases h with
  | granted q tag _ _ htag =>
    refine .inr ⟨rfl, s.formRequest tag q, rfl, ?_⟩
    rw [s.formRequest_tag]
    exact MemoryPort.freeTag_eq_some htag
  | lateTaken _ tag size e hans _ => exact .inl ⟨rfl, .of_late hans rfl⟩
  | entryEnded _ q tag size e x ans data u he hends hu =>
    obtain ⟨hentries, hissued⟩ := hu.port
    exact .inl ⟨u.endPassage_issued.trans hissued, hends.entriesKept he (u.endPassage_entries.trans hentries)⟩
  | rangeFault _ code _ _ => exact same (by rw [s.enterFaulted_eq])
  | resetWritten _ v _ _ _ => exact left (by decide)
  | disabledWritten _ v _ _ _ _ => exact left (by decide)
  | pinMoved _ level hp => exact absurd hp hpin
  | evaluated p _ _ _ => exact same (s.evaluateSample_port p)
  | startHeld _ cur _ _ => exact same (State.checkStart_port _)
  | chosen x _ _ => exact same (s.choose_port x)
  | cqTailRaised v _ _ => exact same (State.checkCommandFetch_port _)
  | bqTailRaised v _ _ => exact same (State.checkBufferFetch_port _)
  | ticked _ => exact same ((State.withTick_port _ _).trans s.endDueEvaluation_port)
  | noticeTaken _ _ _ => exact same (State.withEng_port s _)
  | enabledWritten _ v _ _ _ _ => exact .inl ⟨rfl, .of_same rfl⟩
  | _ => exact same rfl

/-- Settles O50: the events one by one. -/
theorem onlyGrantsIssue : Obligations.OnlyGrantsIssue := by
  intro c s t h hpin
  obtain ⟨hsame, hkept⟩ | ⟨rfl, hreq⟩ := (State.event_of_exec h).issued hpin
  · exact ⟨.inl hsame, fun _ => hkept⟩
  · exact ⟨.inr ⟨rfl, hreq⟩, fun hne => absurd rfl hne⟩

end Sys2Proof.Machine
end

/-! PROOFS. The register window (O54) and the records the part writes (O60). -/

section
namespace Sys2Proof.Machine

/-! ### STATUS -/

theorem ofNat_getLsbD_eq_false {n k i : Nat} (hn : n < 2 ^ k) (hi : k ≤ i) : (BitVec.ofNat 32 n).getLsbD i = false := by
  rw [BitVec.getLsbD_ofNat, Nat.testBit_lt_two_pow (hn.trans_le (Nat.pow_le_pow_right (by decide) hi)), Bool.and_false]

theorem DeviceState.code_lt (d : DeviceState) : d.code < 2 ^ 8 := by cases d <;> decide

theorem FaultCode.code_lt (c : FaultCode) : c.code * 2 ^ 8 < 2 ^ 12 := by cases c <;> decide

theorem AcqState.code_eq (a : AcqState) : BitVec.ofNat 32 (a.code * 2 ^ 16) = regBit (decide (a = .running)) 16 := by
  cases a <;> rfl

/-- From bit 12 on STATUS holds MULTI and the acquisition state only (Table 10-13). -/
theorem State.statusWord_high (s : State) {i : Nat} (hi : 12 ≤ i) :
    s.statusWord.getLsbD i =
      ((s.ctl.multi && decide (i = 12)) || (decide (s.acq.state = .running) && decide (i = 16))) := by
  rw [State.statusWord, AcqState.code_eq, BitVec.getLsbD_or, BitVec.getLsbD_or, BitVec.getLsbD_or,
    ofNat_getLsbD_eq_false s.ctl.device.code_lt (by omega), ofNat_getLsbD_eq_false s.ctl.faultCode.code_lt hi,
    regBit_getLsbD _ (by decide), regBit_getLsbD _ (by decide), Bool.false_or, Bool.false_or]

/-- The device state stands in bits 0 to 7 of STATUS. -/
theorem State.statusWord_device (s : State) : (s.statusWord.extractLsb' 0 8).toNat = s.ctl.device.code := by
  have hmulti : (regBit s.ctl.multi 12).extractLsb' 0 8 = 0 := by cases s.ctl.multi <;> decide
  have hacq : (BitVec.ofNat 32 (s.acq.state.code * 2 ^ 16)).extractLsb' 0 8 = 0 := by cases s.acq.state <;> decide
  have hcode : (BitVec.ofNat 32 (s.ctl.faultCode.code * 2 ^ 8)).extractLsb' 0 8 = 0 := by
    cases s.ctl.faultCode <;> decide
  rw [State.statusWord, BitVec.extractLsb'_or, BitVec.extractLsb'_or, BitVec.extractLsb'_or, hmulti, hacq, hcode]
  cases s.ctl.device <;> decide

/-- The fault code stands in bits 8 to 11 of STATUS. -/
theorem State.statusWord_code (s : State) : (s.statusWord.extractLsb' 8 4).toNat = s.ctl.faultCode.code := by
  have hmulti : (regBit s.ctl.multi 12).extractLsb' 8 4 = 0 := by cases s.ctl.multi <;> decide
  have hacq : (BitVec.ofNat 32 (s.acq.state.code * 2 ^ 16)).extractLsb' 8 4 = 0 := by cases s.acq.state <;> decide
  have hdevice : (BitVec.ofNat 32 s.ctl.device.code).extractLsb' 8 4 = 0 := by cases s.ctl.device <;> decide
  rw [State.statusWord, BitVec.extractLsb'_or, BitVec.extractLsb'_or, BitVec.extractLsb'_or, hmulti, hacq, hdevice]
  cases s.ctl.faultCode <;> decide

/-! ### Writes to the window -/

/-- While RESETN is asserted every write is ignored (R178). -/
theorem exec_write_of_resetAsserted {s : State} (h : s.resetAsserted = true) (v : Word) :
    (∀ r, exec (.registerWrite r v) s = .next s) ∧ exec (.enable v) s = .next s ∧ exec (.disable v) s = .next s ∧
      exec (.softReset v) s = .next s ∧ exec (.cqTailWrite v) s = .next s ∧ exec (.bqTailWrite v) s = .next s ∧
      exec (.eqHeadWrite v) s = .next s ∧ exec (.interruptWrite v) s = .next s := by
  have hcontrol : s.writeControl v = s := by rw [State.writeControl, if_pos h]
  have hno {p : Prop} : ¬ (p ∧ s.resetAsserted = false) := fun e => by simp [h] at e
  exact ⟨fun r => congrArg Host.Outcome.next (if_neg hno), congrArg Host.Outcome.next hcontrol,
    congrArg Host.Outcome.next hcontrol, congrArg Host.Outcome.next hcontrol, congrArg Host.Outcome.next (if_neg hno),
    congrArg Host.Outcome.next (if_neg hno), congrArg Host.Outcome.next (if_neg hno),
    congrArg Host.Outcome.next (if_pos h)⟩

theorem exec_registerWrite_ignored {s : State} (h : s.ctl.device ≠ .disabled) (r : PlainRegister) (v : Word) :
    exec (.registerWrite r v) s = .next s :=
  congrArg Host.Outcome.next (if_neg fun e => h e.1)

theorem exec_registerWrite_status (s : State) (v : Word) : exec (.registerWrite .status v) s = .next s := by
  refine congrArg Host.Outcome.next ?_
  split <;> rfl

/-- A word of an address, bit by bit. -/
theorem getLsbD_extractWord (a : Addr) (off i : Nat) :
    (a.extractLsb' off 32).getLsbD i = (decide (i < 32) && a.getLsbD (off + i)) := BitVec.getLsbD_extractLsb' ..

/-- The high half of an address, at its own bits. -/
theorem getLsbD_highWord (a : Addr) {i : Nat} (hi : 32 ≤ i) :
    (a.extractLsb' 32 32).getLsbD (i - 32) = a.getLsbD i := by
  rw [getLsbD_extractWord, show 32 + (i - 32) = i by omega]
  by_cases h : i - 32 < 32
  · rw [decide_eq_true h, Bool.true_and]
  · rw [BitVec.getLsbD_of_ge a i (by omega), Bool.and_false]

/-- What a write of SETUP_LO leaves of the address: its six lowest bits are discarded (R165). -/
theorem getLsbD_setupLo (v : Word) (a : Addr) (i : Nat) :
    (a.extractLsb' 32 32 ++ (v.extractLsb' 6 26 ++ (0 : BitVec 6)) : Addr).getLsbD i =
      if i < 6 then false else if i < 32 then v.getLsbD i else a.getLsbD i := by
  rw [BitVec.getLsbD_append]
  by_cases h32 : i < 32
  · rw [if_pos (by exact h32), if_pos h32, BitVec.getLsbD_append]
    by_cases h6 : i < 6
    · rw [if_pos h6, if_pos h6]
      exact BitVec.getLsbD_zero
    · rw [if_neg h6, if_neg h6, BitVec.getLsbD_extractLsb', show 6 + (i - 6) = i by omega,
        decide_eq_true (by omega : i - 6 < 26), Bool.true_and]
  · rw [if_neg (by exact h32), if_neg h32, if_neg (by omega)]
    exact getLsbD_highWord a (by omega)

/-- What a write of SETUP_HI leaves of the address. -/
theorem getLsbD_setupHi (v : Word) (a : Addr) (i : Nat) :
    (v ++ a.extractLsb' 0 32 : Addr).getLsbD i = if i < 32 then a.getLsbD i else v.getLsbD (i - 32) := by
  rw [BitVec.getLsbD_append]
  by_cases h : i < 32
  · rw [if_pos h, if_pos h, getLsbD_extractWord, decide_eq_true h, Bool.true_and, Nat.zero_add]
  · rw [if_neg h, if_neg h]

/-- Settles O54: the reads bit by bit, and the writes by the device state. -/
theorem registerWindow : Obligations.RegisterWindow := by
  refine ⟨fun s hpin => ?_, fun s r h => if_pos h, fun s v h => exec_write_of_resetAsserted h v, fun s v =>
    ⟨exec_registerWrite_status s v, fun hd => ⟨exec_cqTailWrite_ignored hd v, exec_bqTailWrite_ignored hd v,
      exec_eqHeadWrite_ignored hd v⟩, fun hd => ⟨exec_registerWrite_ignored hd _ v, exec_registerWrite_ignored hd _ v⟩,
      fun hd hpin => ?_⟩⟩
  · have hstatus : s.readRegister .status = s.statusWord := by simp only [State.readRegister, hpin]; rfl
    refine ⟨?_, ?_, fun i => ?_, ?_, ?_, ?_, ?_, fun i hi => ?_, ?_, ?_, ?_, fun i => ?_⟩
    · simp only [State.readRegister, hpin]; rfl
    · simp only [State.readRegister, hpin]; rfl
    · have hcontrol : s.readRegister .control = regBit s.ctl.enable 0 := by simp only [State.readRegister, hpin]; rfl
      rw [hcontrol, regBit_getLsbD _ (by decide), Bool.and_comm]
    · rw [hstatus, s.statusWord_device]
      cases s.ctl.device <;> rfl
    · rw [hstatus, s.statusWord_code]
      cases s.ctl.faultCode <;> rfl
    · rw [hstatus, s.statusWord_high (by decide)]
      simp
    · rw [hstatus, s.statusWord_high (by decide)]
      simp
    · obtain ⟨h13, h16⟩ := hi
      rw [hstatus, s.statusWord_high (by omega)]
      simp [h16, show i ≠ 12 by omega]
    · simp only [State.readRegister, hpin]; rfl
    · simp only [State.readRegister, hpin]; rfl
    · simp only [State.readRegister, hpin]; rfl
    · rw [State.readRegister_interrupt_getLsbD hpin]
      by_cases h0 : i = 0
      · simp [h0]
      by_cases h1 : i = 1
      · simp [h1]
      by_cases h8 : i = 8
      · simp [h8]
      by_cases h9 : i = 9
      · simp [h9]
      simp [h0, h1, h8, h9]
  · refine ⟨_, _, congrArg Host.Outcome.next (if_pos ⟨hd, hpin⟩), congrArg Host.Outcome.next (if_pos ⟨hd, hpin⟩),
      fun i => ?_, fun i => ?_⟩
    · exact getLsbD_setupLo v s.ctl.setupAddress i
    · exact getLsbD_setupHi v s.ctl.setupAddress i

end Sys2Proof.Machine
end

/-! PROOFS. The records the part writes (chapter 10: O60): each field read back from its bytes. -/

section
namespace Sys2Proof.Machine

/-! ### Reading fields back -/

theorem leValue_leBytes (n v : Nat) : leValue (leBytes n v) = v % 256 ^ n := by
  induction n generalizing v with
  | zero => rw [Nat.pow_zero, Nat.mod_one]; rfl
  | succ n ih =>
    rw [leBytes, leValue, ih, BitVec.toNat_ofNat, Nat.pow_succ' (m := 256)]
    exact (Nat.mod_mul (x := v) (a := 256) (b := 256 ^ n)).symm

@[simp] theorem leValue_reserved (n : Nat) : leValue (reserved n) = 0 := by
  induction n with
  | zero => rfl
  | succ n ih =>
    rw [reserved, List.replicate_succ, leValue]
    rw [reserved] at ih
    rw [ih]
    rfl

/-- The first field of a record. -/
@[simp] theorem fieldOf_head {a rest : List Byte} {n : Nat} (h : a.length = n) : fieldOf (a ++ rest) 0 n = leValue a := by
  rw [fieldOf, List.drop_zero, List.take_left' h]

/-- The last field of a record. -/
@[simp] theorem fieldOf_last {a : List Byte} {n : Nat} (h : a.length = n) : fieldOf a 0 n = leValue a := by
  rw [fieldOf, List.drop_zero, List.take_of_length_le h.le]

/-- A field beyond the first bytes. -/
@[simp] theorem fieldOf_skip {a rest : List Byte} {off n : Nat} (h : a.length ≤ off) :
    fieldOf (a ++ rest) off n = fieldOf rest (off - a.length) n := by
  have hdrop : (a ++ rest).drop off = rest.drop (off - a.length) := by
    conv_lhs => rw [show off = a.length + (off - a.length) by omega, ← List.drop_drop, List.drop_left]
  rw [fieldOf, fieldOf, hdrop]

@[simp] theorem leValue_bytes48 (x : BitVec 48) : leValue (bytes48 x) = x.toNat := by
  rw [bytes48, leValue_leBytes]
  exact Nat.mod_eq_of_lt x.isLt

@[simp] theorem leValue_optBytes48 (x : Option (BitVec 48)) : leValue (optBytes48 x) = (x.getD 0).toNat := leValue_bytes48 _

theorem leValue_leBytes_of_lt {n v : Nat} (h : v < 256 ^ n) : leValue (leBytes n v) = v := by
  rw [leValue_leBytes, Nat.mod_eq_of_lt h]

@[simp] theorem leValue_singleton (b : Byte) : leValue [b] = b.toNat := rfl

@[simp] theorem leValue_word (x : Word) : leValue (leBytes 4 x.toNat) = x.toNat := leValue_leBytes_of_lt x.isLt

@[simp] theorem leValue_half (x : BitVec 16) : leValue (leBytes 2 x.toNat) = x.toNat := leValue_leBytes_of_lt x.isLt

theorem leValue_byte {v : Nat} (h : v < 256) : leValue (leBytes 1 v) = v := leValue_leBytes_of_lt h

theorem bit_zero (b : Bool) : bit b 0 = if b then 1 else 0 := rfl

theorem bit_lt (b : Bool) {i : Nat} : bit b i ≤ 2 ^ i := by
  cases b with
  | false => exact Nat.zero_le _
  | true => exact le_rfl

/-- A flag in bit 0 of a byte of its own. -/
@[simp] theorem leValue_flag (b : Bool) : leValue (leBytes 1 (bit b 0)) = if b then 1 else 0 := by
  cases b <;> rfl

/-- Settles the capture entries of O60 (Table 10-11). -/
theorem captureEntry_fields (k : SampleNo) (isTrigger : Bool) (e : RingEntry) :
    let v := fieldOf (captureEntryBytes k isTrigger e)
    v 0x00 6 = k.toNat ∧ v 0x06 1 = (if isTrigger then 1 else 0) ∧
    v 0x07 1 = 0 ∧ v 0x08 4 = e.data.toNat ∧ v 0x0C 4 = e.tickLow.toNat := by
  intro v
  have hv : v = fieldOf (captureEntryBytes k isTrigger e) := rfl
  simp only [captureEntryBytes, List.append_assoc] at hv
  simp [hv, fieldOf_skip, bytes48_length, leBytes_length, reserved_length]

/-! ### Event records -/

theorem EventContent.byteOne_lt (x : EventContent) : x.byteOne < 256 := by
  cases x with
  | cmdDone d => cases h : d.status <;> simp [EventContent.byteOne, h, CmdStatus.code]
  | bufferReject r => cases h : r.reason <;> simp [EventContent.byteOne, h, RejectReason.code]
  | watchReport r => exact r.watch.isLt.trans (by decide)
  | captureDone d => exact d.slot.isLt.trans (by decide)
  | acqHalt h => exact h.watch.isLt.trans (by decide)

theorem EventContent.kindCode_lt (x : EventContent) : x.kindCode < 128 := by
  cases x <;> simp [EventContent.kindCode]

/-- The first 8 bytes of an event record (Table 10-5), and where its body lies. -/
theorem InFlight.record_fields (f : InFlight) :
    let v := fieldOf f.recordBytes
    v 0x00 1 = f.content.kindCode + bit f.phase 7 ∧ v 0x01 1 = f.content.byteOne ∧ v 0x02 6 = f.eventTick.toNat ∧
      ∀ off n, v (off + 8) n = fieldOf f.content.body off n := by
  intro v
  have hv : v = fieldOf f.recordBytes := rfl
  have hkind : leValue (leBytes 1 (f.content.kindCode + bit f.phase 7)) = f.content.kindCode + bit f.phase 7 := by
    have h1 := f.content.kindCode_lt
    have h2 : bit f.phase 7 ≤ 128 := bit_lt f.phase
    exact leValue_byte (by omega)
  have hone := leValue_byte f.content.byteOne_lt
  simp only [InFlight.recordBytes, List.append_assoc] at hv
  refine ⟨?_, ?_, ?_, fun off n => ?_⟩
  · rw [hv, fieldOf_head (leBytes_length _ _), hkind]
  · simp [hv, fieldOf_skip, leBytes_length, hone]
  · simp [hv, fieldOf_skip, leBytes_length, bytes48_length]
  · rw [hv, fieldOf_skip (by rw [leBytes_length]; omega), fieldOf_skip (by rw [leBytes_length, leBytes_length]; omega),
      fieldOf_skip (by rw [leBytes_length, leBytes_length, bytes48_length]; omega), leBytes_length, leBytes_length,
      bytes48_length]
    congr 1

/-- The body of a CMD_DONE (Table 10-6). -/
theorem cmdDone_fields (d : CmdDone) (h : d.headAfter < 2 ^ 16) :
    let v := fieldOf (EventContent.cmdDone d).body
    v 0 2 = d.tag.toNat ∧ v 2 1 = d.kind.toNat ∧ v 3 1 = (d.detail.getD 0).toNat ∧
      v 4 1 = (if d.detail.isSome then 1 else 0) ∧ v 5 1 = 0 ∧ v 6 2 = d.headAfter ∧ v 8 16 = 0 := by
  intro v
  have hv : v = fieldOf (EventContent.cmdDone d).body := rfl
  have hhead : leValue (leBytes 2 d.headAfter) = d.headAfter := leValue_leBytes_of_lt h
  simp only [EventContent.body, List.append_assoc] at hv
  simp only [hv, fieldOf_skip, fieldOf_head, fieldOf_last, leBytes_length, reserved_length, List.length_singleton, hhead,
    leValue_half, leValue_singleton, leValue_flag, leValue_reserved, Nat.reduceLeDiff, Nat.reduceSub, and_self]

/-- The body of a WATCH_REPORT (Table 10-7). -/
theorem watchReport_fields (r : WatchReport) (hm : r.missed ≤ 255) (hf : r.fireCount < 2 ^ 32) :
    let v := fieldOf (EventContent.watchReport r).body
    v 0 1 = r.endReason.code + bit r.final 7 ∧ v 1 1 = r.missed ∧ v 2 4 = r.fireCount ∧
      v 6 6 = (r.firstFire.getD 0).toNat ∧ v 12 6 = (r.lastFire.getD 0).toNat ∧ v 18 6 = r.lastFireTick.toNat := by
  intro v
  have hv : v = fieldOf (EventContent.watchReport r).body := rfl
  have hreason : leValue (leBytes 1 (r.endReason.code + bit r.final 7)) = r.endReason.code + bit r.final 7 := by
    have h1 : r.endReason.code < 128 := by cases r.endReason <;> decide
    have h2 : bit r.final 7 ≤ 128 := bit_lt r.final
    exact leValue_byte (by omega)
  have hmissed : leValue (leBytes 1 r.missed) = r.missed := leValue_byte (by omega)
  have hfires : leValue (leBytes 4 r.fireCount) = r.fireCount := leValue_leBytes_of_lt hf
  simp only [EventContent.body, List.append_assoc] at hv
  simp [hv, fieldOf_skip, leBytes_length, bytes48_length, optBytes48_length, hreason, hmissed, hfires]

/-- The body of a CAPTURE_DONE (Table 10-8). -/
theorem captureDone_fields (d : CaptureDone) (h : d.entryCount < 2 ^ 32) :
    let v := fieldOf (EventContent.captureDone d).body
    v 0 1 = d.watch.val ∧ v 1 1 = d.status.code ∧ v 2 2 = 0 ∧ v 4 4 = d.bufferTag.toNat ∧ v 8 6 = d.trigger.toNat ∧
      v 14 6 = d.firstSample.toNat ∧ v 20 4 = d.entryCount := by
  intro v
  have hv : v = fieldOf (EventContent.captureDone d).body := rfl
  have hwatch : leValue (leBytes 1 d.watch.val) = d.watch.val := leValue_byte (d.watch.isLt.trans (by decide))
  have hstatus : leValue (leBytes 1 d.status.code) = d.status.code := leValue_byte (by cases d.status <;> decide)
  have hcount : leValue (leBytes 4 d.entryCount) = d.entryCount := leValue_leBytes_of_lt h
  simp only [EventContent.body, List.append_assoc] at hv
  simp [hv, fieldOf_skip, leBytes_length, reserved_length, bytes48_length, hwatch, hstatus, hcount]

/-- The body of a BUFFER_REJECT (Table 10-9). -/
theorem bufferReject_fields (r : Rejection) (h : r.bqIndex < 2 ^ 16) :
    let v := fieldOf (EventContent.bufferReject r).body
    v 0 4 = r.tag.toNat ∧ v 4 2 = r.bqIndex ∧ v 6 18 = 0 := by
  intro v
  have hv : v = fieldOf (EventContent.bufferReject r).body := rfl
  have hindex : leValue (leBytes 2 r.bqIndex) = r.bqIndex := leValue_leBytes_of_lt h
  simp only [EventContent.body, List.append_assoc] at hv
  simp [hv, fieldOf_skip, leBytes_length, reserved_length, hindex]

/-- The body of an ACQ_HALT (Table 10-10). -/
theorem acqHalt_fields (r : HaltRecord) :
    let v := fieldOf (EventContent.acqHalt r).body
    v 0 6 = r.sample.toNat ∧ v 6 18 = 0 := by
  intro v
  have hv : v = fieldOf (EventContent.acqHalt r).body := rfl
  simp only [EventContent.body] at hv
  simp [hv, fieldOf_skip, bytes48_length, reserved_length]

/-! ### The watch snapshot -/

/-- Three flags in the low bits of a byte. -/
theorem leValue_flags (x y z : Bool) :
    leValue (leBytes 1 (bit x 0 + bit y 1 + bit z 2)) =
      (if x then 1 else 0) + (if y then 2 else 0) + (if z then 4 else 0) := by
  cases x <;> cases y <;> cases z <;> rfl

/-- The fields of a watch snapshot (Table 10-12), by the model's codes. -/
theorem snapshot_fields (c : SnapshotContent) (hm : c.missed ≤ 255) (hf : c.fireCount < 2 ^ 32)
    (hskip : c.skipRemaining < 2 ^ 32) (hwin : c.windowRemaining.getD 0 < 2 ^ 32) (hs : c.skip < 2 ^ 32)
    (hw : c.window < 2 ^ 32) :
    let v := fieldOf c.recordBytes
    v 0x00 1 = c.watch.val ∧ v 0x01 1 = c.state.code ∧ v 0x02 1 = c.previous.code ∧ v 0x03 1 = c.endReason.code ∧
    v 0x04 1 =
      (if c.asOf.isSome then 1 else 0) + (if c.windowRemaining.isSome then 2 else 0) +
        (if (c.fireCount != 0) = true then 4 else 0) ∧
    v 0x05 1 = c.missed ∧ v 0x06 2 = 0 ∧ v 0x08 6 = (c.asOf.getD 0).toNat ∧ v 0x0E 2 = 0 ∧
    v 0x10 6 = (c.firstFire.getD 0).toNat ∧ v 0x16 6 = (c.lastFire.getD 0).toNat ∧ v 0x1C 4 = c.fireCount ∧
    v 0x20 4 = c.skipRemaining ∧ v 0x24 4 = c.windowRemaining.getD 0 ∧ v 0x28 1 = c.test.code ∧
    v 0x29 1 = c.sense.code ∧ v 0x2A 1 = c.mode.code ∧ v 0x2B 1 = predecessorCode c.predecessor ∧
    v 0x2C 1 = (if c.relatch then 1 else 0) + (if c.capture then 2 else 0) + (if c.halt then 4 else 0) ∧ v 0x2D 3 = 0 ∧
    v 0x30 4 = c.skip ∧ v 0x34 4 = c.window ∧ v 0x38 8 = 0 := by
  intro v
  have hv : v = fieldOf c.recordBytes := rfl
  have hwatch : leValue (leBytes 1 c.watch.val) = c.watch.val := leValue_byte (c.watch.isLt.trans (by decide))
  have hstate : leValue (leBytes 1 c.state.code) = c.state.code := leValue_byte (by cases c.state <;> decide)
  have hprev : leValue (leBytes 1 c.previous.code) = c.previous.code := leValue_byte (by cases c.previous <;> decide)
  have hreason : leValue (leBytes 1 c.endReason.code) = c.endReason.code :=
    leValue_byte (by cases c.endReason <;> decide)
  have htest : leValue (leBytes 1 c.test.code) = c.test.code := leValue_byte (by cases c.test <;> decide)
  have hsense : leValue (leBytes 1 c.sense.code) = c.sense.code := leValue_byte (by cases c.sense <;> decide)
  have hmode : leValue (leBytes 1 c.mode.code) = c.mode.code := leValue_byte (by cases c.mode <;> decide)
  have hpred : leValue (leBytes 1 (predecessorCode c.predecessor)) = predecessorCode c.predecessor := by
    refine leValue_byte ?_
    cases c.predecessor with
    | none => decide
    | some p => exact p.isLt.trans (by decide)
  have hmissed : leValue (leBytes 1 c.missed) = c.missed := leValue_byte (by omega)
  have hfires : leValue (leBytes 4 c.fireCount) = c.fireCount := leValue_leBytes_of_lt hf
  have hskip : leValue (leBytes 4 c.skipRemaining) = c.skipRemaining := leValue_leBytes_of_lt hskip
  have hwin : leValue (leBytes 4 (c.windowRemaining.getD 0)) = c.windowRemaining.getD 0 := leValue_leBytes_of_lt hwin
  have hs : leValue (leBytes 4 c.skip) = c.skip := leValue_leBytes_of_lt hs
  have hw : leValue (leBytes 4 c.window) = c.window := leValue_leBytes_of_lt hw
  unfold SnapshotContent.recordBytes at hv
  simp only [List.append_assoc] at hv
  simp only [hv, fieldOf_skip, fieldOf_head, fieldOf_last, leBytes_length, reserved_length, optBytes48_length,
    leValue_reserved, leValue_optBytes48, leValue_flags, hwatch, hstate, hprev, hreason, htest, hsense, hmode, hpred,
    hmissed, hfires, hskip, hwin, hs, hw, Nat.reduceLeDiff, Nat.reduceSub, and_self]

/-- The kind code and the phase share the first byte of an event record (Table 10-5). -/
theorem kind_phase_split {k : Nat} (hk : k < 128) (b : Bool) :
    (k + bit b 7) / 128 = (if b then 1 else 0) ∧ (k + bit b 7) % 128 = k := by
  cases b with
  | false =>
    rw [show bit false 7 = 0 from rfl, Nat.add_zero, Nat.div_eq_of_lt hk, Nat.mod_eq_of_lt hk]
    exact ⟨rfl, rfl⟩
  | true =>
    rw [show bit true 7 = 128 from rfl, Nat.add_div_right k (by decide), Nat.div_eq_of_lt hk, Nat.add_mod_right,
      Nat.mod_eq_of_lt hk]
    exact ⟨rfl, rfl⟩

/-- Settles O60: the header of an event record and the body of each kind, the capture entry, and the snapshot. -/
theorem recordFields : Obligations.RecordFields := by
  unfold Obligations.RecordFields
  intro cmdStatus captureStatus rejectReason endReason watchState previous
  have hcmd (x : CmdStatus) : x.code = cmdStatus x := by cases x <;> rfl
  have hcapture (x : CaptureStatus) : x.code = captureStatus x := by cases x <;> rfl
  have hreject (x : RejectReason) : x.code = rejectReason x := by cases x <;> rfl
  have hend (x : EndReason) : x.code = endReason x := by cases x <;> rfl
  have hstate (x : WatchState) : x.code = watchState x := by cases x <;> rfl
  have hprevious (x : PrevResult) : x.code = previous x := by cases x <;> rfl
  refine ⟨fun f => ?_, fun k isTrigger e => ⟨captureEntryBytes_length k isTrigger e, captureEntry_fields k isTrigger e⟩,
    fun c hm hf hskip hwin hs hw => ?_⟩
  · intro v
    obtain ⟨hkind, hone, htick, hbody⟩ := f.record_fields
    obtain ⟨hphase, hcode⟩ := kind_phase_split f.content.kindCode_lt f.phase
    refine ⟨f.recordBytes_length, htick, (congrArg (· / 128) hkind).trans hphase, fun d hd hb => ?_, fun r hd hb hb' => ?_,
      fun d hd hb => ?_, fun r hd hb => ?_, fun r hd => ?_⟩
    all_goals
      have hkindOf : v 0x00 1 % 128 = f.content.kindCode := (congrArg (· % 128) hkind).trans hcode
      rw [hd] at hkindOf hone hbody
    · obtain ⟨h0, h2, h3, h4, h5, h6, h8⟩ := cmdDone_fields d hb
      exact ⟨hkindOf, hone.trans (hcmd _), (hbody 0 2).trans h0, (hbody 2 1).trans h2, (hbody 3 1).trans h3,
        (hbody 4 1).trans h4, (hbody 5 1).trans h5, (hbody 6 2).trans h6, (hbody 8 16).trans h8⟩
    · obtain ⟨h0, h1, h2, h6, h12, h18⟩ := watchReport_fields r hb hb'
      rw [hend] at h0
      exact ⟨hkindOf, hone, (hbody 0 1).trans h0, (hbody 1 1).trans h1, (hbody 2 4).trans h2,
        (hbody 6 6).trans h6, (hbody 12 6).trans h12, (hbody 18 6).trans h18⟩
    · obtain ⟨h0, h1, h2, h4, h8, h14, h20⟩ := captureDone_fields d hb
      exact ⟨hkindOf, hone, (hbody 0 1).trans h0, (hbody 1 1).trans (h1.trans (hcapture _)), (hbody 2 2).trans h2,
        (hbody 4 4).trans h4, (hbody 8 6).trans h8, (hbody 14 6).trans h14, (hbody 20 4).trans h20⟩
    · obtain ⟨h0, h4, h6⟩ := bufferReject_fields r hb
      exact ⟨hkindOf, hone.trans (hreject _), (hbody 0 4).trans h0, (hbody 4 2).trans h4, (hbody 6 18).trans h6⟩
    · obtain ⟨h0, h6⟩ := acqHalt_fields r
      exact ⟨hkindOf, hone, (hbody 0 6).trans h0, (hbody 6 18).trans h6⟩
  · have hrem : c.windowRemaining.getD 0 < 2 ^ 32 := by
      cases h : c.windowRemaining with
      | none => exact Nat.two_pow_pos 32
      | some n => exact hwin n h
    have htest : c.test.code = if c.test = .masked then 0 else 1 := by cases c.test <;> rfl
    have hsense : c.sense.code = if c.sense = .level then 0 else if c.sense = .enter then 1 else 2 := by
      cases c.sense <;> rfl
    have hmode : c.mode.code = if c.mode = .single then 0 else 1 := by cases c.mode <;> rfl
    have hfired : (if (c.fireCount != 0) = true then 4 else 0) = if c.fireCount = 0 then 0 else 4 := by
      by_cases h : c.fireCount = 0 <;> simp [h]
    obtain ⟨h00, h01, h02, h03, h04, h05, h06, h08, h0e, h10, h16, h1c, h20, h24, h28, h29, h2a, h2b, hrest⟩ :=
      snapshot_fields c hm hf hskip hrem hs hw
    rw [hfired] at h04
    exact ⟨c.recordBytes_length, h00, h01.trans (hstate _), h02.trans (hprevious _), h03.trans (hend _), h04, h05, h06,
      h08, h0e, h10, h16, h1c, h20, h24, h28.trans htest, h29.trans hsense, h2a.trans hmode,
      h2b.trans (by cases c.predecessor <;> rfl), hrest⟩

end Sys2Proof.Machine
end

/-! PROOFS. The reset pin (O57), the values after power-on (O58), and the queue of commands that wait (O1). -/

section
namespace Sys2Proof.Machine

/-! ### The reset pin -/

/-- Power-on leaves every Request Table entry FREE, so no answer reaches an owner (R162). -/
theorem State.entry_powerOn (s : State) (level : Bool) (tag : Tag) : (s.powerOn level).entry tag = .free :=
  tget_replicate _ tag

theorem State.takeResponse_of_free {s : State} {r : Response} (h : s.entry r.tag = .free) : s.takeResponse r = s := by
  simp only [State.takeResponse, h]

theorem State.takeExpiry_of_free {s : State} {tag : Tag} (h : s.entry tag = .free) : s.takeExpiry tag = s := by
  simp only [State.takeExpiry, h]

/-- Held at its power-on values the part answers no command but the release of RESETN (R178). -/
theorem exec_powerOn {c : Instr} (s : State) (hc : c ≠ .resetPinReleased) :
    exec c (s.powerOn true) = .next (s.powerOn true) := by
  cases c with
  | resetPinReleased => exact absurd rfl hc
  | resetPinAsserted n =>
    refine congrArg Host.Outcome.next ?_
    split <;> rfl
  | cqReadResponse r | snapshotWriteResponse r | burstWriteResponse r | bqReadResponse r | setupReadResponse r
  | lateResponse r | eqWriteResponse r =>
    exact congrArg Host.Outcome.next (State.takeResponse_of_free (s.entry_powerOn true r.tag))
  | nop tag record => exact congrArg Host.Outcome.next (State.takeResponse_of_free (s.entry_powerOn true tag))
  | responseLimitExpiry tag => exact congrArg Host.Outcome.next (State.takeExpiry_of_free (s.entry_powerOn true tag))
  | registerWrite r v => exact (exec_write_of_resetAsserted rfl v).1 r
  | _ => rfl

/-- Settles O57: the two pin events, and what is left of every other command meanwhile. -/
theorem resetPin : Obligations.ResetPin := by
  refine ⟨fun s n => ⟨fun h => congrArg Host.Outcome.next (if_pos h),
    fun h => congrArg Host.Outcome.next (if_neg (Nat.not_le_of_lt h))⟩, fun s => ⟨fun h => ?_, fun h => ?_⟩,
    fun c q hc => exec_powerOn { State.reset with pending := q } hc⟩
  · exact congrArg Host.Outcome.next (if_pos h)
  · exact congrArg Host.Outcome.next (if_neg (by simp [h]))

/-! ### The values after power-on -/

theorem State.reset_watch (w : WatchId) : State.reset.watch w = .freeContext := tget_replicate _ w

theorem State.reset_slot (i : SlotId) : State.reset.slot i = .freeSlot := tget_replicate _ i

theorem State.reset_entry (tag : Tag) : State.reset.entry tag = .free := tget_replicate _ tag

theorem Slot.sound_freeSlot : Slot.freeSlot.Sound := by
  simp [Slot.Sound, Slot.freeSlot]

theorem State.reset_activeCount (q : Requester) : State.reset.port.activeCount q = 0 := by
  refine List.length_eq_zero_iff.2 (List.filter_eq_nil_iff.2 fun tag _ => ?_)
  rw [show tget State.reset.port.entries tag = .free from State.reset_entry tag]
  exact Bool.false_ne_true

theorem State.reset_standing (q : Requester) : State.reset.standing q = false := by
  cases q with
  | slot i => rw [State.standing, State.reset_slot]; rfl
  | _ => rfl

theorem State.reset_capturesSound : State.reset.CapturesSound := by
  refine ⟨fun i => ?_, fun d hd => absurd hd List.not_mem_nil, fun w => ?_⟩
  · rw [State.reset_slot]
    exact Slot.sound_freeSlot
  · rw [State.reset_watch]
    exact Watch.sound_freeContext.1

theorem State.reset_copiesSound : State.reset.CopiesSound := by
  refine ⟨fun i h => ?_, fun i h => ?_, fun h => (nomatch h), fun h => absurd rfl h⟩
  · rw [State.reset_slot] at h
    cases h
  · rw [State.reset_slot] at h
    cases h

theorem State.reset_requestsOwned : State.reset.RequestsOwned := by
  refine ⟨⟨State.reset_activeCount _, State.reset_activeCount _, State.reset_activeCount _, State.reset_activeCount _,
    fun i => ?_⟩, fun _ => ?_, fun h => (nomatch h), fun _ => rfl, fun _ q _ => State.reset_standing q, ⟨fun _ => rfl,
      fun _ => rfl⟩, fun h => (nomatch h)⟩
  · rw [State.reset_activeCount, State.reset_slot]
    rfl
  · refine MemoryPort.someActive_eq_false.2 fun tag => ?_
    rw [show tget State.reset.port.entries tag = .free from State.reset_entry tag]
    rfl

theorem State.reset_commandSound : State.reset.CommandSound :=
  ⟨⟨fun h => (nomatch h), fun h => absurd rfl h⟩, fun h => absurd rfl h, fun h => absurd rfl h, fun h => (nomatch h),
    fun h => absurd rfl h, fun _ h => (nomatch h), fun _ => rfl, fun _ => rfl, fun h => (nomatch h)⟩

theorem State.reset_runSound : State.reset.RunSound :=
  ⟨fun h => absurd rfl h, fun _ => rfl, fun _ => ⟨rfl, rfl, rfl⟩, fun _ h => (nomatch h), fun h => (nomatch h)⟩

theorem State.reset_supplySound : State.reset.SupplySound :=
  ⟨Nat.zero_le _, Nat.zero_le _, ⟨fun h => (nomatch h), fun h => absurd rfl h⟩, fun _ h => (nomatch h),
    fun h => (nomatch h)⟩

theorem State.reset_readRegister (r : WindowRegister) : State.reset.readRegister r = 0 := by
  cases r <;> decide

/-- Settles O58: the values of `State.reset`, one block after another. -/
theorem resetIsSound : Obligations.ResetIsSound := by
  refine ⟨⟨WatchEngine.sound_cleared, WatchEngine.reportsExact_cleared,
    fun w h => absurd (congrArg Watch.state (State.reset_watch w)) h, ⟨rfl, by decide⟩, State.reset_runSound,
    State.reset_capturesSound, State.reset_copiesSound, State.reset_supplySound, by decide,
    ⟨by decide, fun _ h => (nomatch h)⟩, fun h => (nomatch h), fun h => (nomatch h), State.reset_requestsOwned,
    State.reset_commandSound, fun h => (nomatch h)⟩, ?_⟩
  intro t
  exact ⟨State.reset_readRegister, rfl, rfl, rfl, ⟨rfl, rfl, rfl, rfl, rfl, rfl, rfl⟩, ⟨rfl, rfl, rfl, rfl, rfl⟩,
    ⟨State.reset_watch, rfl, rfl, rfl, rfl, rfl⟩, ⟨State.reset_slot, rfl, rfl, rfl⟩, ⟨rfl, rfl, rfl, rfl, rfl⟩,
    ⟨rfl, rfl, rfl, rfl, rfl, rfl, rfl⟩, ⟨rfl, rfl, rfl, rfl, rfl, rfl, rfl, rfl, rfl⟩, State.reset_entry, rfl, rfl⟩

/-! ### The queue of commands that wait -/

section
variable (s : State) (f : List Instr → List Instr)

theorem State.endPassage_remap_id : (s.remap f id).endPassage = s.endPassage.remap f id := s.endPassage_remap f id rfl

theorem State.takeResponse_remap (r : Response) :
    (s.remap f id).takeResponse r = (s.takeResponse r).remap f id := by
  have hset (tag : Tag) (x : PortEntry) : (s.remap f id).setEntry tag x = (s.setEntry tag x).remap f id := rfl
  simp only [State.takeResponse, hset, State.deliver_remap, State.endPassage_remap_id]
  rw [show (s.remap f id).entry r.tag = s.entry r.tag from rfl]
  cases s.entry r.tag <;> rfl

theorem State.takeExpiry_remap (tag : Tag) : (s.remap f id).takeExpiry tag = (s.takeExpiry tag).remap f id := by
  have hset (x : PortEntry) : (s.remap f id).setEntry tag x = (s.setEntry tag x).remap f id := rfl
  simp only [State.takeExpiry, hset, State.deliver_remap, State.endPassage_remap_id]
  rw [show (s.remap f id).entry tag = s.entry tag from rfl]
  cases s.entry tag with
  | active q size e =>
    cases e with
    | none => rfl
    | some e => exact (apply_ite (State.remap f id) _ _ _).symm
  | free | stale => rfl

theorem State.issueGrant_remap (q : Requester) (tag : Tag) :
    (s.remap f id).issueGrant q tag = (s.issueGrant q tag).remap f id := by
  have hform : (s.remap f id).formRequest tag q = s.formRequest tag q := by cases q <;> rfl
  have htold : (s.remap f id).tellGranted tag q = (s.tellGranted tag q).remap f id := by
    cases q with
    | slot i => simp only [State.tellGranted, State.remap_slot, State.remap_acq, State.setSlot_remap, State.checkStart_remap]
    | _ => rfl
  rw [State.issueGrant_frame, State.issueGrant_frame, hform, htold]
  rfl

theorem State.makeGrant_remap : (s.remap f id).makeGrant = s.makeGrant.remap f id := by
  simp only [State.makeGrant, State.remap_ctl, State.issueGrant_remap]
  rw [show (s.remap f id).nextRequester = s.nextRequester from rfl,
    show (s.remap f id).port.freeTag = s.port.freeTag from rfl]
  split
  · cases s.nextRequester with
    | none => rfl
    | some q => cases s.port.freeTag <;> rfl
  · rfl

theorem State.leave_remap (d : DeviceState) : (s.remap f id).leave d = (s.leave d).remap f id := by
  rw [State.leave_eq, State.leave_eq, ← State.endPassage_remap_id, State.left, State.left, State.stopBlocks_remap]
  rfl

theorem State.writeControl_remap (v : Word) : (s.remap f id).writeControl v = (s.writeControl v).remap f id := by
  simp only [State.writeControl, State.remap_resetAsserted, State.remap_ctl, State.leave_remap,
    State.enterStarting_remap]
  by_cases hpin : s.resetAsserted = true
  · rw [if_pos hpin, if_pos hpin]
  rw [if_neg hpin, if_neg hpin]
  by_cases h1 : v.getLsbD 1 = true
  · rw [if_pos h1, if_pos h1]
    exact (apply_ite (State.remap f id) _ _ _).symm
  rw [if_neg h1, if_neg h1]
  by_cases h0 : v.getLsbD 0 = true
  · rw [if_pos h0, if_pos h0]
    exact (apply_ite (State.remap f id) _ _ _).symm
  rw [if_neg h0, if_neg h0]
  cases s.ctl.device <;> rfl

/-- A command's effect is the same on the state behind any queue when the operation it runs is. -/
theorem exec_remap_of {c : Instr} {F : State → State} (hF : ∀ s, exec c s = .next (F s))
    (h : F (s.remap f id) = (F s).remap f id) :
    ∃ t, exec c s = .next t ∧ exec c (s.remap f id) = .next (t.remap f id) :=
  ⟨F s, hF s, (hF _).trans (congrArg Host.Outcome.next h)⟩

theorem exec_load_remap :
    ∃ t, exec .load s = .next t ∧ exec .load (s.remap f id) = .next (t.remap f id) := by
  refine exec_remap_of s f (fun _ => rfl) ?_
  rw [State.dispatchedWatch_remap, State.remap_eng]
  cases s.dispatchedWatch .load with
  | none => rfl
  | some p =>
    obtain ⟨c, w⟩ := p
    dsimp only
    obtain ⟨st, cfg⟩ := s.eng.judgeLoad w c.record
    cases cfg <;> rfl

/-- A command neither reads nor changes the queue of the commands behind it. -/
theorem exec_remap (c : Instr) : ∃ t, exec c s = .next t ∧ exec c (s.remap f id) = .next (t.remap f id) := by
  cases c with
  | cqReadResponse r | snapshotWriteResponse r | burstWriteResponse r | bqReadResponse r | setupReadResponse r
  | lateResponse r | eqWriteResponse r => exact exec_remap_of s f (fun _ => rfl) (s.takeResponse_remap f r)
  | nop tag record => exact exec_remap_of s f (fun _ => rfl) (s.takeResponse_remap f _)
  | responseLimitExpiry tag => exact exec_remap_of s f (fun _ => rfl) (s.takeExpiry_remap f tag)
  | enable v | disable v | softReset v => exact exec_remap_of s f (fun _ => rfl) (s.writeControl_remap f v)
  | grant => exact exec_remap_of s f (fun _ => rfl) (s.makeGrant_remap f)
  | load => exact exec_load_remap s f
  | sampleArrival word =>
    refine exec_remap_of s f (fun _ => rfl) ?_
    rw [State.acceptsEdge_remap, State.arrive_remap]
    split <;> rfl
  | sampleEvaluation extent =>
    refine exec_remap_of s f (fun _ => rfl) ?_
    simp only [State.remap_eng, State.remap_ctl, State.evaluateSample_remap]
    cases s.eng.presented with
    | none => rfl
    | some p =>
      by_cases h : s.ctl.device = .enabled ∧ s.eng.noticeWaiting = false
      · simp only [if_pos h]
        cases extent <;> rfl
      · simp only [if_neg h]
  | startOfRunNotice =>
    refine exec_remap_of s f (fun _ => rfl) ?_
    simp only [State.remap_eng, State.remap_ctl, State.withEng_remap]
    exact (apply_ite (State.remap f id) _ _ _).symm
  | expiryRaised w =>
    refine exec_remap_of s f (fun _ => rfl) ?_
    simp only [State.remap_watch, State.remap_ctl, State.remap_tick, State.setWatch_remap]
    exact (apply_ite (State.remap f id) _ _ _).symm
  | windowExpiry w =>
    refine exec_remap_of s f (fun _ => rfl) ?_
    simp only [State.remap_watch, State.remap_ctl, State.remap_eng, State.watchDone_remap]
    exact (apply_ite (State.remap f id) _ _ _).symm
  | arm =>
    refine exec_remap_of s f (fun _ => rfl) ?_
    rw [State.dispatchedWatch_remap]
    cases s.dispatchedWatch .arm with
    | none => rfl
    | some p =>
      dsimp only
      rw [apply_ite (State.remap f id)]
      rfl
  | disarm =>
    refine exec_remap_of s f (fun _ => rfl) ?_
    rw [State.dispatchedWatch_remap]
    cases s.dispatchedWatch .disarm with
    | none => rfl
    | some p =>
      dsimp only
      rw [apply_ite (State.remap f id)]
      rfl
  | free =>
    refine exec_remap_of s f (fun _ => rfl) ?_
    rw [State.dispatchedWatch_remap]
    cases s.dispatchedWatch .free with
    | none => rfl
    | some p =>
      dsimp only
      rw [apply_ite (State.remap f id), apply_ite (State.remap f id)]
      rfl
  | snapshot =>
    refine exec_remap_of s f (fun _ => rfl) ?_
    rw [State.dispatchedWatch_remap]
    cases s.dispatchedWatch .snapshot with
    | none => rfl
    | some p =>
      dsimp only
      rw [apply_ite (State.remap f id)]
      rfl
  | start =>
    refine exec_remap_of s f (fun _ => rfl) ?_
    simp only [State.dispatched_remap, State.remap_acq, State.complete_remap, State.holdStart_remap, State.checkStart_remap]
    cases s.dispatched .start with
    | none => rfl
    | some c => cases s.acq.state <;> rfl
  | startTaken =>
    refine exec_remap_of s f (fun _ => rfl) ?_
    simp only [State.holdStart_remap, State.startReady_remap, State.takeStart_remap]
    exact (apply_ite (State.remap f id) _ _ _).symm
  | stop =>
    refine exec_remap_of s f (fun _ => rfl) ?_
    dsimp only
    rw [State.dispatched_remap, State.remap_acq]
    cases s.dispatched .stop with
    | none => rfl
    | some c => cases s.acq.state <;> rfl
  | cancel =>
    refine exec_remap_of s f (fun _ => rfl) ?_
    dsimp only
    rw [State.dispatched_remap, State.remap_cap]
    cases s.dispatched .cancel with
    | none => rfl
    | some c =>
      dsimp only
      cases s.cap.cancelling with
      | some p => rfl
      | none =>
        cases slotsOf c.record.slot with
        | none => rfl
        | some named =>
          dsimp only
          rw [apply_ite (State.remap f id)]
          rfl
  | eventChoice =>
    refine exec_remap_of s f (fun _ => rfl) ?_
    simp only [State.mayChoose_remap, State.offer_remap, State.choose_remap]
    by_cases h : s.mayChoose = true
    · simp only [if_pos h]
      cases s.offer <;> rfl
    · simp only [if_neg h]
  | holdoffExpiry =>
    refine exec_remap_of s f (fun _ => rfl) ?_
    simp only [State.remap_evt, State.remap_ctl, State.remap_tick, State.withEvt_remap]
    cases s.evt.holdoffTimer with
    | none => rfl
    | some e => exact (apply_ite (State.remap f id) _ _ _).symm
  | cqTailWrite v =>
    refine exec_remap_of s f (fun _ => rfl) ?_
    simp only [State.remap_ctl, State.remap_resetAsserted, State.remap_cmd, State.fatal_remap, State.withCmd_remap,
      State.checkCommandFetch_remap]
    by_cases h : s.ctl.device = .enabled ∧ s.resetAsserted = false
    · simp only [if_pos h]
      cases judgeTail s.cmd.size s.cmd.head s.cmd.available v <;> rfl
    · simp only [if_neg h]
  | bqTailWrite v =>
    refine exec_remap_of s f (fun _ => rfl) ?_
    simp only [State.remap_ctl, State.remap_resetAsserted, State.remap_fetch, State.fatal_remap, State.withFetch_remap,
      State.checkBufferFetch_remap]
    by_cases h : s.ctl.device = .enabled ∧ s.resetAsserted = false
    · simp only [if_pos h]
      cases judgeTail s.fetch.size s.fetch.head s.fetch.available v <;> rfl
    · simp only [if_neg h]
  | eqHeadWrite v =>
    refine exec_remap_of s f (fun _ => rfl) ?_
    simp only [State.remap_ctl, State.remap_resetAsserted, State.remap_evt, State.fatal_remap, State.withEvt_remap]
    rw [apply_ite (State.remap f id), apply_ite (State.remap f id)]
  | interruptWrite v =>
    refine exec_remap_of s f (fun _ => rfl) ?_
    rw [apply_ite (State.remap f id)]
    rfl
  | registerWrite reg v =>
    refine exec_remap_of s f (fun _ => rfl) ?_
    dsimp only
    rw [apply_ite (State.remap f id)]
    cases reg <;> rfl
  | resetPinAsserted n =>
    refine exec_remap_of s f (fun _ => rfl) ?_
    rw [apply_ite (State.remap f id)]
    rfl
  | resetPinReleased =>
    refine exec_remap_of s f (fun _ => rfl) ?_
    rw [apply_ite (State.remap f id)]
    rfl
  | refclkTick =>
    refine exec_remap_of s f (fun _ => rfl) ?_
    simp only [State.remap_resetAsserted, State.endDueEvaluation_remap, State.remap_tick, State.withTick_remap]
    exact (apply_ite (State.remap f id) _ _ _).symm

end

/-- Settles O1: a step is `exec` behind the queue, which no command reads (`exec_remap`). -/
theorem stepRunsFront : Obligations.StepRunsFront := by
  refine ⟨fun c rest s => rfl, fun s h => ?_, fun c s => ?_⟩
  · simp only [step, h]
  · obtain ⟨t, ht, hkept⟩ := exec_remap s (fun _ => s.pending) c
    have hpending : t = t.remap (fun _ => s.pending) id := Host.Outcome.next.inj (ht.symm.trans hkept)
    refine ⟨t, ht, hpending ▸ rfl, fun q => ?_⟩
    obtain ⟨t', ht', hq⟩ := exec_remap s (fun _ => q) c
    rw [Host.Outcome.next.inj (ht.symm.trans ht')]
    exact hq

end Sys2Proof.Machine
end

/-! PROOFS. The Command Unit has one command in work (chapter 7): the part of RequestsStayOwned (O46) that says so, one
operation after another. -/

section
namespace Sys2Proof.Machine

/-! ### What the invariant reads -/

/-- What the invariant of the Command Unit reads is the same, but that a held START may have gone and acquisition may have
become IDLE. -/
structure State.CommandKept (s t : State) : Prop where
  device : t.ctl.device = s.ctl.device
  state : t.cmd.state = s.cmd.state
  current : t.cmd.current = s.cmd.current
  held : t.cmd.held = s.cmd.held
  snapshot : t.cmd.snapshot = s.cmd.snapshot
  start : t.acq.heldStart = true → s.acq.heldStart = true ∧ (t.acq.state = s.acq.state ∨ t.acq.state = .idle)
  cancelling : t.cap.cancelling = none ↔ s.cap.cancelling = none
  completion : t.evt.keptCompletion = s.evt.keptCompletion
  carries : s.ctl.device = .enabled → t.evt.carriesCmdDone = s.evt.carriesCmdDone

theorem State.CommandSound.of_kept {s t : State} (h : s.CommandSound) (k : s.CommandKept t) : t.CommandSound := by
  obtain ⟨hcur, hheld, hsnap, hstart, hcancel, hrecord, hout, hkept, hpost⟩ := h
  refine ⟨?_, ?_, ?_, fun hs => ?_, ?_, ?_, ?_, ?_, ?_⟩
  · rwa [k.state, k.current]
  · rwa [k.held, k.state]
  · rwa [k.snapshot, State.CurrentKind, k.current]
  · obtain ⟨hs, ha⟩ := k.start hs
    obtain ⟨hkind, hidle⟩ := hstart hs
    exact ⟨by rwa [State.CurrentKind, k.current], ha.elim (fun e => e.trans hidle) id⟩
  · rwa [ne_eq, k.cancelling, State.CurrentKind, k.current]
  · rwa [k.current]
  · rwa [k.device, k.state]
  · rwa [k.device, k.completion]
  · rw [k.device, k.state, k.held]
    intro hd
    rw [k.carries hd]
    exact hpost hd

/-- No command is in work. -/
structure State.CommandIdle (t : State) : Prop where
  state : t.cmd.state = .idle
  current : t.cmd.current = none
  held : t.cmd.held = none
  snapshot : t.cmd.snapshot = none
  start : t.acq.heldStart = false
  cancelling : t.cap.cancelling = none

theorem State.CommandIdle.sound {t : State} (h : t.CommandIdle)
    (hkept : t.ctl.device = .disabled ∨ t.ctl.device = .starting ∨ t.ctl.device = .enabled → t.evt.keptCompletion = none)
    (hcarries : t.ctl.device = .enabled → t.evt.carriesCmdDone = false) : t.CommandSound := by
  refine ⟨by simp [h.state, h.current], fun e => absurd h.held e, fun e => absurd h.snapshot e, ?_,
    fun e => absurd h.cancelling e, ?_, fun _ => h.state, hkept, fun hd => ?_⟩
  · rw [h.start]
    exact fun e => (nomatch e)
  · rw [h.current]
    exact fun _ e => (nomatch e)
  · simp [h.state, h.held, hcarries hd]

/-- Outside ENABLED, what has stopped the blocks leaves no command in work (R66, R146). -/
theorem State.CommandSound.idle {s : State} (h : s.CommandSound) (hd : s.ctl.device ≠ .enabled) : s.CommandIdle := by
  obtain ⟨hcur, hheld, hsnap, hstart, hcancel, -, hout, -, -⟩ := h
  have hidle := hout hd
  have hnone : s.cmd.current = none := by
    by_contra e
    cases hidle.symm.trans (hcur.2 e)
  have unkind {k : CommandKind} (e : s.CurrentKind k) : False := by
    rw [State.CurrentKind, hnone] at e
    cases e
  refine ⟨hidle, hnone, ?_, ?_, ?_, ?_⟩
  · by_contra e
    cases hidle.symm.trans (hheld e)
  · by_contra e
    exact unkind (hsnap e)
  · exact eq_false_of_ne_true fun e => unkind (hstart e).1
  · by_contra e
    exact unkind (hcancel e)

/-! ### Completions -/

theorem State.CurrentKind.unique {s : State} {j k : CommandKind} (h : s.CurrentKind j) (g : s.CurrentKind k) : j = k :=
  Option.some.inj (Option.some.inj (h.symm.trans g))

theorem State.currentKind_of_dispatched {s : State} {k : CommandKind} {cur : CurrentCommand}
    (h : s.dispatched k = some cur) : s.CurrentKind k := by
  obtain ⟨-, -, hcur, hkind⟩ := State.dispatched_eq_some.1 h
  rw [State.CurrentKind, hcur, Option.map_some, hkind]

/-- The command of a held START, a snapshot content or a CANCEL in progress is the one that waits at its owner. -/
theorem State.CommandSound.dispatched {s : State} (h : s.CommandSound) {k : CommandKind} (hd : s.ctl.device = .enabled)
    (hk : s.CurrentKind k) : ∃ cur, s.dispatched k = some cur := by
  obtain ⟨hexec, -⟩ := h
  rw [State.CurrentKind, Option.map_eq_some_iff] at hk
  obtain ⟨cur, hcur, hkind⟩ := hk
  exact ⟨cur, State.dispatched_eq_some.2 ⟨hd, hexec.2 (by simp [hcur]), hcur, hkind⟩⟩

theorem State.CommandSound.no_snapshot {s : State} (h : s.CommandSound) {k : CommandKind} (hk : s.CurrentKind k)
    (hne : k ≠ .snapshot) : s.cmd.snapshot = none := by
  obtain ⟨-, -, hsnap, -⟩ := h
  by_contra e
  exact hne (hk.unique (hsnap e))

theorem State.CommandSound.no_start {s : State} (h : s.CommandSound) {k : CommandKind} (hk : s.CurrentKind k)
    (hne : k ≠ .start) : s.acq.heldStart = false := by
  obtain ⟨-, -, -, hstart, -⟩ := h
  exact eq_false_of_ne_true fun e => hne (hk.unique (hstart e).1)

theorem State.CommandSound.no_cancel {s : State} (h : s.CommandSound) {k : CommandKind} (hk : s.CurrentKind k)
    (hne : k ≠ .cancel) : s.cap.cancelling = none := by
  obtain ⟨-, -, -, -, hcancel, -⟩ := h
  by_contra e
  exact hne (hk.unique (hcancel e))

/-- A completion of the command that waits at its owner (R141): it leaves no snapshot content, held START or CANCEL. -/
theorem State.CommandSound.complete {s : State} (h : s.CommandSound) {k : CommandKind} {cur : CurrentCommand}
    (hdisp : s.dispatched k = some cur) (hsnap : s.cmd.snapshot = none) (hstart : s.acq.heldStart = false)
    (hcancel : s.cap.cancelling = none) (st : CmdStatus) : (s.complete st).CommandSound := by
  obtain ⟨-, -, -, -, -, -, -, hkept, hpost⟩ := h
  obtain ⟨hd, hexec, hcur, -⟩ := State.dispatched_eq_some.1 hdisp
  have hcmd : (s.complete st).cmd = { s.cmd with state := .posting, current := none, held := some (cur.done st) } :=
    CommandUnit.complete_of_current hcur st
  have hcarries : s.evt.carriesCmdDone = false := by
    refine eq_false_of_ne_true fun e => ?_
    cases hexec.symm.trans ((hpost hd).1.2 (.inr e))
  refine ⟨?_, ?_, ?_, ?_, fun e => absurd hcancel e, ?_, fun e => absurd hd e, hkept, fun _ => ⟨?_, fun _ => hcarries⟩⟩
  · rw [hcmd]
    exact ⟨fun e => (nomatch e), fun e => absurd rfl e⟩
  · rw [hcmd]
    exact fun _ => rfl
  · rw [hcmd]
    exact fun e => absurd hsnap e
  · rw [State.complete_acq, hstart]
    exact fun e => (nomatch e)
  · rw [hcmd]
    exact fun _ e => (nomatch e)
  · rw [hcmd]
    exact ⟨fun _ => .inl (by simp), fun _ => rfl⟩

/-- A command refused, or done at once (R141). -/
theorem State.CommandSound.complete_done {s : State} (h : s.CommandSound) {k : CommandKind} {cur : CurrentCommand}
    (hdisp : s.dispatched k = some cur) (hs : k ≠ .snapshot) (hcancel : k = .cancel → s.cap.cancelling = none)
    (hstart : k = .start → s.acq.heldStart = false) (st : CmdStatus) : (s.complete st).CommandSound := by
  have hk := State.currentKind_of_dispatched hdisp
  refine h.complete hdisp (h.no_snapshot hk hs) ?_ ?_ st
  · by_cases e : k = .start
    · exact hstart e
    · exact h.no_start hk e
  · by_cases e : k = .cancel
    · exact hcancel e
    · exact h.no_cancel hk e

/-- The take of a held START completes it (R61). -/
theorem State.CommandSound.checkStart {s : State} (h : s.CommandSound) : s.checkStart.CommandSound := by
  obtain ⟨hready, e⟩ | ⟨-, e⟩ := s.checkStart_cases
  · rw [e]
    obtain ⟨hd, hheld, -⟩ := (State.startReady_iff s).1 hready
    have hkind : s.CurrentKind .start := by
      obtain ⟨-, -, -, hstart, -⟩ := h
      exact (hstart hheld).1
    obtain ⟨cur, hdisp⟩ := h.dispatched hd hkind
    have taken : ((s.withAcq { s.acq with state := .running, heldCount := 0, heldStart := false }).withEng
        { s.eng with noticeWaiting := true }).CommandSound :=
      h.of_kept ⟨rfl, rfl, rfl, rfl, rfl, fun e => (nomatch e), .rfl, rfl, fun _ => rfl⟩
    exact taken.complete_done (k := .start) hdisp (by decide) (fun e => (nomatch e)) (fun _ => rfl) .ok
  · rwa [e]

/-! ### Evaluations -/

theorem State.evaluated_cancelling {s : State} (p : PresentedSample) (hd : s.ctl.device = .enabled) :
    (s.evaluated p).cap.cancelling = s.cap.cancelling := by
  rw [s.evaluated_cap p, (State.requested_served p hd).cap_of_withEng]

theorem State.commandKept_evaluated {s : State} (p : PresentedSample) (hd : s.ctl.device = .enabled) :
    s.CommandKept (s.evaluated p) := by
  have hacq : (s.evaluated p).acq.heldStart = true →
      s.acq.heldStart = true ∧ ((s.evaluated p).acq.state = s.acq.state ∨ (s.evaluated p).acq.state = .idle) := by
    obtain ⟨hhalt, hno⟩ := s.evaluated_acq p
    cases h : s.haltTaken p with
    | true =>
      obtain ⟨hrun, w, hw⟩ := State.haltTaken_eq_true.1 h
      rw [hhalt w hw hrun]
      exact fun e => ⟨e, .inr rfl⟩
    | false =>
      rw [hno h]
      exact fun e => ⟨e, .inl rfl⟩
  have hframe := s.evaluated_frame p
  have hcancel := State.evaluated_cancelling p hd
  generalize s.evaluated p = t at *
  refine ⟨?_, ?_, ?_, ?_, ?_, hacq, by rw [hcancel], ?_, fun _ => ?_⟩ <;> rw [hframe]

theorem State.CommandSound.evaluateSample {s : State} (h : s.CommandSound) (p : PresentedSample)
    (hd : s.ctl.device = .enabled) : (s.evaluateSample p).CommandSound := by
  rw [s.evaluateSample_eq, State.closeSample_eq]
  exact (h.of_kept (State.commandKept_evaluated p hd)).checkStart

/-! ### The command's own steps -/

/-- The fetch of the next record (R136). -/
theorem State.CommandSound.checkCommandFetch {s : State} (h : s.CommandSound) : s.checkCommandFetch.CommandSound := by
  obtain ⟨hd, hidle, -, e⟩ | ⟨-, e⟩ := s.checkCommandFetch_cases
  · rw [e]
    obtain ⟨hcur, hheld, hsnap, hstart, hcancel, hrecord, hout, hkept, hpost⟩ := h
    refine ⟨?_, fun e => ?_, hsnap, hstart, hcancel, hrecord, fun e => absurd hd e, hkept, fun _ => ?_⟩
    · refine ⟨fun e => (nomatch e), fun e => ?_⟩
      cases hidle.symm.trans (hcur.2 e)
    · cases hidle.symm.trans (hheld e)
    · obtain ⟨hpost, hboth⟩ := hpost hd
      refine ⟨⟨fun e => (nomatch e), fun e => ?_⟩, hboth⟩
      cases hidle.symm.trans (hpost.2 e)
  · rwa [e]

/-- The take of a record (R137, R138, R142). -/
theorem State.CommandSound.take {s : State} (h : s.CommandSound) (hd : s.ctl.device = .enabled)
    (hf : s.cmd.state = .fetching) (r : CommandRecord) : (s.withCmd (s.cmd.take r)).CommandSound := by
  obtain ⟨hcur, hheld, hsnap, hstart, hcancel, hrecord, hout, hkept, hpost⟩ := h
  have hnone : s.cmd.current = none := by
    by_contra e
    cases hf.symm.trans (hcur.2 e)
  have unkind {k : CommandKind} (e : s.CurrentKind k) : False := by
    rw [State.CurrentKind, hnone] at e
    cases e
  have hcarries : s.evt.carriesCmdDone = false := by
    refine eq_false_of_ne_true fun e => ?_
    cases hf.symm.trans ((hpost hd).1.2 (.inr e))
  have hheldnone : s.cmd.held = none := by
    by_contra e
    cases hf.symm.trans (hheld e)
  have done {st : CmdStatus} {u : CommandUnit} {cur : CurrentCommand} (hu : u.snapshot = s.cmd.snapshot)
      (hc : u.current = some cur) : (s.withCmd (u.complete st)).CommandSound := by
    rw [CommandUnit.complete_of_current hc]
    refine ⟨⟨fun e => (nomatch e), fun e => absurd rfl e⟩, fun _ => rfl, fun e => (unkind (hsnap ?_)).elim,
      fun e => (unkind (hstart e).1).elim, fun e => (unkind (hcancel e)).elim, fun _ e => (nomatch e),
      fun e => absurd hd e, hkept, fun _ => ⟨⟨fun _ => .inl (by simp), fun _ => rfl⟩, fun _ => hcarries⟩⟩
    rw [← hu]
    exact e
  unfold CommandUnit.take
  cases hr : r.takeRefusal with
  | some st => exact done rfl rfl
  | none =>
    dsimp only
    by_cases hk : kindOf r.kind = some .nop
    · rw [if_pos hk]
      exact done rfl rfl
    · rw [if_neg hk]
      refine ⟨⟨fun _ e => (nomatch e), fun _ => rfl⟩, fun e => absurd hheldnone e, fun e => (unkind (hsnap e)).elim,
        fun e => (unkind (hstart e).1).elim, fun e => (unkind (hcancel e)).elim, fun c e => ?_,
        fun e => absurd hd e, hkept, fun _ => ⟨⟨fun e => (nomatch e), fun e => ?_⟩, fun _ => hcarries⟩⟩
      · cases e
        exact ⟨hr, hk⟩
      · exact (e.elim (fun e => e hheldnone) (by simp [hcarries])).elim

/-- The answer to a snapshot write completes the SNAPSHOT (R143). -/
theorem State.CommandSound.snapshotWritten {s : State} (h : s.CommandSound) (hd : s.ctl.device = .enabled)
    (hs : s.cmd.snapshot ≠ none) (ans : Answer) : (s.snapshotWritten ans).CommandSound := by
  obtain ⟨hcur, hheld, hsnap, hstart, hcancel, hrecord, hout, hkept, hpost⟩ := id h
  have hk := hsnap hs
  obtain ⟨cur, hdisp⟩ := h.dispatched hd hk
  have written : (s.withCmd { s.cmd with snapshot := none, link := .none }).CommandSound :=
    ⟨hcur, hheld, fun e => absurd rfl e, hstart, hcancel, hrecord, hout, hkept, hpost⟩
  exact written.complete (k := .snapshot) (cur := cur) hdisp rfl (h.no_start hk (by decide)) (h.no_cancel hk (by decide)) _

/-- The event written carried the CMD_DONE, and the Command Unit is IDLE again (R145). -/
theorem State.CommandSound.cmdDoneWritten {s : State} (h : s.CommandSound) (hd : s.ctl.device = .enabled)
    (hc : s.evt.carriesCmdDone = true) {e : EventWriter} (he : e.carriesCmdDone = false)
    (hsame : e.keptCompletion = s.evt.keptCompletion) :
    s.cmd.state = .posting ∧ ((s.withEvt e).withCmd { s.cmd with state := .idle }).CommandSound := by
  obtain ⟨hcur, hheld, hsnap, hstart, hcancel, hrecord, hout, hkept, hpost⟩ := h
  obtain ⟨hiff, hboth⟩ := hpost hd
  have hposting := hiff.2 (.inr hc)
  have hheldnone : s.cmd.held = none := by
    by_contra e
    cases hc.symm.trans (hboth e)
  refine ⟨hposting, ⟨fun e => (nomatch e), fun e => ?_⟩, fun e => absurd hheldnone e, hsnap, hstart, hcancel, hrecord,
    fun e => absurd hd e, fun e => hsame.trans (hkept e), fun _ => ⟨⟨fun e => (nomatch e), fun e => ?_⟩, fun _ => he⟩⟩
  · cases hposting.symm.trans (hcur.2 e)
  · exact (e.elim (fun e => e hheldnone) fun e => by cases he.symm.trans e).elim

/-- The event written is counted, and a CMD_DONE is told to the Command Unit, which may fetch (R116, R145). -/
theorem State.eqWritten_cases {s : State} (h : s.CommandSound) (hd : s.ctl.device = .enabled) :
    (s.evt.carriesCmdDone = true ∧ s.cmd.state = .posting ∧
      ((s.withEvt (s.evt.advance.count s.tick)).withCmd { s.cmd with state := .idle }).CommandSound ∧
      s.eqWritten .ok =
        ((s.withEvt (s.evt.advance.count s.tick)).withCmd { s.cmd with state := .idle }).checkCommandFetch) ∨
    (s.evt.carriesCmdDone = false ∧ (s.withEvt (s.evt.advance.count s.tick)).CommandSound ∧
      s.eqWritten .ok = s.withEvt (s.evt.advance.count s.tick)) := by
  have hcount : (s.evt.advance.count s.tick).carriesCmdDone = false ∧
      (s.evt.advance.count s.tick).keptCompletion = s.evt.keptCompletion := by
    rw [EventWriter.count_frame]
    exact ⟨rfl, rfl⟩
  obtain ⟨hnocarry, hsame⟩ := hcount
  simp only [State.eqWritten]
  cases hc : s.evt.carriesCmdDone with
  | true =>
    obtain ⟨hposting, hsound⟩ := h.cmdDoneWritten hd hc hnocarry hsame
    refine .inl ⟨rfl, hposting, hsound, ?_⟩
    rw [if_pos rfl, State.cmdDoneWritten, if_pos (by exact hposting)]
    rfl
  | false =>
    exact .inr ⟨rfl, h.of_kept ⟨rfl, rfl, rfl, rfl, rfl, fun e => ⟨e, .inl rfl⟩, .rfl, hsame,
      fun _ => hnocarry.trans hc.symm⟩, if_neg (by decide)⟩

theorem State.CommandSound.eqWritten {s : State} (h : s.CommandSound) (hd : s.ctl.device = .enabled) :
    (s.eqWritten .ok).CommandSound := by
  obtain ⟨-, -, hsound, e⟩ | ⟨-, hsound, e⟩ := State.eqWritten_cases h hd <;> rw [e]
  · exact hsound.checkCommandFetch
  · exact hsound

/-! ### Choices -/

/-- At the choice of a CAPTURE_DONE a CANCEL with no target left is completed (R87). -/
theorem State.CommandSound.captureDoneChosen {s : State} (h : s.CommandSound) (hd : s.ctl.device = .enabled)
    (i : SlotId) : (s.captureDoneChosen i).CommandSound := by
  obtain ⟨p, hp, -, -, e⟩ | ⟨p, hp, -, -, e⟩ | ⟨-, e⟩ := s.captureDoneChosen_cases i
  · rw [e]
    have hk : s.CurrentKind .cancel := by
      obtain ⟨-, -, -, -, hcancel, -⟩ := h
      exact hcancel (by simp [hp])
    obtain ⟨cur, hdisp⟩ := h.dispatched hd hk
    have hsnap := h.no_snapshot hk (by decide)
    have hstart := h.no_start hk (by decide)
    have freed : (s.withCap { s.cap with slots := tset s.cap.slots i .freeSlot, cancelling := none }).CommandSound := by
      obtain ⟨hcur, hheld, hsnap, hstart, hcancel, hrest⟩ := h
      exact ⟨hcur, hheld, hsnap, hstart, fun e => absurd rfl e, hrest⟩
    exact freed.complete (k := .cancel) (cur := cur) hdisp hsnap hstart rfl _
  · rw [e]
    exact h.of_kept ⟨rfl, rfl, rfl, rfl, rfl, fun e => ⟨e, .inl rfl⟩, by simp [hp], rfl, fun _ => rfl⟩
  · rw [e]
    exact h.of_kept ⟨rfl, rfl, rfl, rfl, rfl, fun e => ⟨e, .inl rfl⟩, .rfl, rfl, fun _ => rfl⟩

/-- An event that carries no CMD_DONE comes in flight. -/
theorem State.CommandSound.withInFlight {s : State} (h : s.CommandSound) (hno : s.evt.inFlight = none)
    {e : EventWriter} (he : e.carriesCmdDone = false) (hkept : e.keptCompletion = s.evt.keptCompletion) :
    (s.withEvt e).CommandSound :=
  h.of_kept ⟨rfl, rfl, rfl, rfl, rfl, fun e => ⟨e, .inl rfl⟩, .rfl, hkept,
    fun _ => he.trans (by simp [EventWriter.carriesCmdDone, hno])⟩

theorem State.CommandSound.choose {s : State} (h : s.CommandSound) (hmay : s.mayChoose = true) {x : EventContent}
    (hx : s.Offered x) : (s.choose x).CommandSound := by
  obtain ⟨hd, hno, -⟩ := State.mayChoose_iff.1 hmay
  unfold State.choose
  cases hx with
  | captureDone d _ =>
    have hevt : (s.captureDoneChosen d.slot).evt = s.evt := by rw [s.captureDoneChosen_frame]
    refine (h.captureDoneChosen hd d.slot).withInFlight ?_ rfl ?_ <;> rw [hevt]
    exact hno
  | acqHalt r _ _ =>
    have kept : (s.withAcq { s.acq with pendingHalt := none }).CommandSound :=
      h.of_kept ⟨rfl, rfl, rfl, rfl, rfl, fun e => ⟨e, .inl rfl⟩, .rfl, rfl, fun _ => rfl⟩
    have hevt : (s.withAcq { s.acq with pendingHalt := none }).checkStart.evt = s.evt := by
      rw [State.checkStart_frame]
      rfl
    refine kept.checkStart.withInFlight ?_ rfl ?_ <;> rw [hevt]
    exact hno
  | cmdDone d _ _ hheld =>
    obtain ⟨hcur, hpost, hsnap, hstart, hcancel, hrecord, hout, hkept, hiff⟩ := h
    have hposting : s.cmd.state = .posting := hpost (by simp [hheld])
    exact ⟨hcur, fun e => absurd rfl e, hsnap, hstart, hcancel, hrecord, hout, hkept,
      fun _ => ⟨⟨fun _ => .inr rfl, fun _ => hposting⟩, fun e => absurd rfl e⟩⟩
  | bufferReject r rest _ _ _ _ =>
    simp only [State.itemChosen]
    rw [State.checkBufferFetch_eq]
    have kept (f : Fetcher) : (s.withFetch f).CommandSound :=
      h.of_kept ⟨rfl, rfl, rfl, rfl, rfl, fun e => ⟨e, .inl rfl⟩, .rfl, rfl, fun _ => rfl⟩
    exact (kept _).withInFlight (by exact hno) rfl rfl
  | watchReport w rest _ _ _ _ _ _ =>
    have kept (e : WatchEngine) : (s.withEng e).CommandSound :=
      h.of_kept ⟨rfl, rfl, rfl, rfl, rfl, fun e => ⟨e, .inl rfl⟩, .rfl, rfl, fun _ => rfl⟩
    exact (kept _).withInFlight (by exact hno) rfl rfl

/-! ### Leaving ENABLED, and the passages -/

theorem State.commandIdle_left (s : State) {d : DeviceState} (hd : d ≠ .enabled) : (s.left d).CommandIdle := by
  rw [s.left_eq hd]
  exact ⟨rfl, rfl, rfl, rfl, rfl, rfl⟩

theorem State.commandSound_enterFaulted (s : State) (code : FaultCode) : (s.enterFaulted code).CommandSound := by
  rw [s.enterFaulted_eq]
  exact State.CommandIdle.sound ⟨rfl, rfl, rfl, rfl, rfl, rfl⟩ (by simp) (by simp)

theorem State.CommandSound.endPassage {s : State} (h : s.CommandSound) : s.endPassage.CommandSound := by
  obtain ⟨-, -, e⟩ | ⟨-, -, e⟩ | ⟨-, e⟩ := s.endPassage_cases
  · rw [e]
    exact State.CommandIdle.sound ⟨rfl, rfl, rfl, rfl, rfl, rfl⟩ (fun _ => rfl) fun e => (nomatch e)
  · rw [e]
    exact State.CommandIdle.sound ⟨rfl, rfl, rfl, rfl, rfl, rfl⟩ (fun _ => rfl) fun e => (nomatch e)
  · rwa [e]

theorem State.commandSound_left (s : State) {d : DeviceState} (hd : d = .stopping ∨ d = .resetting) :
    (s.left d).CommandSound := by
  have hne : d ≠ .enabled := by obtain rfl | rfl := hd <;> decide
  refine (s.commandIdle_left hne).sound (fun e => ?_) fun e => ?_
  · obtain rfl | rfl := hd <;> simp [s.left_device hne] at e
  · exact absurd ((s.left_device hne).symm.trans e) hne

/-! ### Answers -/

/-- An answer at its owner keeps one command in work: the Command Unit's own entry is that of a fetch or a snapshot
write. -/
theorem State.Delivered.commandSound {s t : State} {tag : Tag} {ans : Answer} {data : ReadData} {q : Requester}
    (h : s.Delivered tag ans data q t) (hs : s.CommandSound)
    (howned : q = .command → s.ctl.device = .enabled → s.cmd.state = .fetching ∨ s.cmd.snapshot ≠ none) :
    t.CommandSound := by
  have kept {u : State} (hu : s.CommandKept u) : u.CommandSound := hs.of_kept hu
  have start (e : s.acq.heldStart = true) :
      s.acq.heldStart = true ∧ (s.acq.state = s.acq.state ∨ s.acq.state = .idle) := ⟨e, .inl rfl⟩
  cases h with
  | setupFailed code _ _ => exact State.commandSound_enterFaulted _ code
  | recordFailed _ _ _ => exact State.commandSound_enterFaulted _ _
  | batchFailed b _ _ _ => exact State.commandSound_enterFaulted _ _
  | eventFailed _ _ => exact State.commandSound_enterFaulted _ _
  | setupTaken hd _ _ =>
    have hidle := hs.idle (by simp [hd])
    obtain ⟨-, -, -, -, -, -, -, hkept, -⟩ := hs
    exact State.CommandIdle.sound ⟨rfl, rfl, rfl, rfl, hidle.start, hidle.cancelling⟩ (fun _ => hkept (.inr (.inl hd)))
      fun _ => rfl
  | recordTaken hd hf _ => exact hs.take hd hf _
  | snapshotAnswered hd hexec =>
    refine hs.snapshotWritten hd ((howned rfl hd).resolve_left fun e => ?_) ans
    cases hexec.symm.trans e
  | batchTaken b _ _ _ =>
    rw [State.bqRead_ok_frame]
    exact kept ⟨rfl, rfl, rfl, rfl, rfl, start, .rfl, rfl, fun _ => rfl⟩
  | eventWritten hd _ => exact hs.eqWritten hd
  | eventAbsorbed hd _ =>
    exact kept ⟨rfl, rfl, rfl, rfl, rfl, start, .rfl, rfl, fun e => absurd e hd⟩
  | eventWrittenFaulted hd _ | eventFailedFaulted hd _ =>
    exact kept ⟨rfl, rfl, rfl, rfl, rfl, start, .rfl, rfl, fun e => by cases hd.symm.trans e⟩
  | burstAnswered i _ =>
    exact (kept (u := s.setSlot i _) ⟨rfl, rfl, rfl, rfl, rfl, start, .rfl, rfl, fun _ => rfl⟩).checkStart
  | burstDropped i _ => exact hs
  | setupAbsorbed _ | commandAbsorbed _ | batchAbsorbed _ | burstAnsweredFaulted i _ | burstAnsweredLeaving i _ =>
    exact kept ⟨rfl, rfl, rfl, rfl, rfl, start, .rfl, rfl, fun _ => rfl⟩

/-! ### Every event -/

theorem State.CommandSound.issueGrant {s : State} (h : s.CommandSound) (q : Requester) (tag : Tag) :
    (s.issueGrant q tag).CommandSound := by
  have start (e : s.acq.heldStart = true) :
      s.acq.heldStart = true ∧ (s.acq.state = s.acq.state ∨ s.acq.state = .idle) := ⟨e, .inl rfl⟩
  cases q with
  | slot i =>
    rw [State.issueGrant_slot]
    refine State.CommandSound.checkStart (h.of_kept ⟨rfl, rfl, rfl, rfl, rfl, start, .rfl, rfl, fun _ => rfl⟩)
  | _ => exact h.of_kept ⟨rfl, rfl, rfl, rfl, rfl, start, .rfl, rfl, fun _ => rfl⟩

/-- While the Command Unit's entry is ACTIVE in ENABLED, it fetches or a snapshot content waits (R136, R143). -/
theorem State.RequestsOwned.command_entry {s : State} (h : s.RequestsOwned) (hd : s.ctl.device = .enabled) {tag : Tag}
    {size : Nat} {e : Option Tick} (he : s.entry tag = .active .command size e) :
    s.cmd.state = .fetching ∨ s.cmd.snapshot ≠ none := by
  obtain ⟨⟨-, hcommand, -⟩, -, -, -, -, -, hlink⟩ := h
  by_contra hno
  rw [not_or, not_not] at hno
  have hnone := (hlink hd).2 hno
  rw [hnone, if_neg (by decide)] at hcommand
  exact MemoryPort.not_active_of_count hcommand tag size e he

/-- R138, R140, R141, R146: every event keeps one command in work. -/
theorem State.Event.commandSound {c : Instr} {s t : State} (h : s.Event c t) (hs : s.CommandSound)
    (howned : s.RequestsOwned) : t.CommandSound := by
  have kept {u : State} (hu : s.CommandKept u) : u.CommandSound := hs.of_kept hu
  have start (e : s.acq.heldStart = true) :
      s.acq.heldStart = true ∧ (s.acq.state = s.acq.state ∨ s.acq.state = .idle) := ⟨e, .inl rfl⟩
  have engine (e : WatchEngine) : (s.withEng e).CommandSound :=
    kept ⟨rfl, rfl, rfl, rfl, rfl, start, .rfl, rfl, fun _ => rfl⟩
  have watched {k : CommandKind} {cur : CurrentCommand} {w : WatchId} (e : WatchEngine) (st : CmdStatus)
      (hdisp : s.dispatchedWatch k = some (cur, w)) (h1 : k ≠ .snapshot) (h2 : k ≠ .start) (h3 : k ≠ .cancel) :
      ((s.withEng e).complete st).CommandSound :=
    (engine e).complete_done (State.dispatchedWatch_eq_some.1 hdisp).2.1 h1 (fun e => absurd e h3)
      (fun e => absurd e h2) st
  cases h with
  | stays => exact hs
  | evaluated p hd _ _ => exact hs.evaluateSample p hd
  | refused _ k cur st hk hcancel hstart hdisp =>
    refine hs.complete_done hdisp hk hcancel (fun e => ?_) st
    obtain ⟨-, -, -, hidle, -⟩ := hs
    refine eq_false_of_ne_true fun hheld => ?_
    cases (hstart e).symm.trans (hidle hheld).2
  | loaded cur w cfg hdisp _ => exact watched _ _ hdisp (by decide) (by decide) (by decide)
  | armed cur w hdisp _ => exact watched _ _ hdisp (by decide) (by decide) (by decide)
  | disarmed cur w hdisp _ => exact watched _ _ hdisp (by decide) (by decide) (by decide)
  | freed cur w hdisp _ _ => exact watched _ _ hdisp (by decide) (by decide) (by decide)
  | snapshotTaken cur w hdisp _ =>
    have hk := State.currentKind_of_dispatched (State.dispatchedWatch_eq_some.1 hdisp).2.1
    obtain ⟨hcur, hheld, hsnap, hrest⟩ := hs
    exact ⟨hcur, hheld, fun _ => hk, hrest⟩
  | startHeld _ cur hdisp hidle =>
    have hk := State.currentKind_of_dispatched hdisp
    obtain ⟨hcur, hheld, hsnap, hstart, hrest⟩ := hs
    exact State.CommandSound.checkStart ⟨hcur, hheld, hsnap, fun _ => ⟨hk, hidle⟩, hrest⟩
  | startTaken hready =>
    rw [← State.checkStart_of_ready hready]
    exact hs.checkStart
  | stopped cur hdisp _ =>
    have ended (a : Acquisition) (x : CaptureUnit) (ha : a.heldStart = s.acq.heldStart) (hi : a.state = .idle)
        (hx : x.cancelling = s.cap.cancelling) : ((s.withAcq a).withCap x).CommandSound :=
      kept ⟨rfl, rfl, rfl, rfl, rfl, fun e => ⟨ha ▸ e, .inr hi⟩, by simp [hx], rfl, fun _ => rfl⟩
    refine (ended { s.acq with state := .idle } _ rfl rfl ?_).complete_done (k := .stop) hdisp (by decide)
      (fun e => (nomatch e)) (fun e => (nomatch e)) .ok
    cases s.acq.newest <;> rfl
  | cancelTaken cur named hdisp _ _ _ =>
    have hk := State.currentKind_of_dispatched hdisp
    obtain ⟨hcur, hheld, hsnap, hstart, -, hrest⟩ := hs
    exact ⟨hcur, hheld, hsnap, hstart, fun _ => hk, hrest⟩
  | granted q tag _ _ _ => exact hs.issueGrant q tag
  | entryEnded _ q tag size e x ans data u he hends hu =>
    have hset : (s.setEntry tag x).CommandSound := kept ⟨rfl, rfl, rfl, rfl, rfl, start, .rfl, rfl, fun _ => rfl⟩
    refine (hu.commandSound hset fun hq hd => ?_).endPassage
    subst hq
    exact howned.command_entry hd he
  | chosen x hmay hoffer => exact hs.choose hmay (State.offer_eq_some.1 hoffer)
  | rangeFault _ code _ _ => exact State.commandSound_enterFaulted s code
  | cqTailRaised v _ _ =>
    exact (kept (u := s.withCmd { s.cmd with tail := v.toNat })
      ⟨rfl, rfl, rfl, rfl, rfl, start, .rfl, rfl, fun _ => rfl⟩).checkCommandFetch
  | bqTailRaised v _ _ =>
    rw [State.checkBufferFetch_eq]
    exact kept ⟨rfl, rfl, rfl, rfl, rfl, start, .rfl, rfl, fun _ => rfl⟩
  | enabledWritten _ v _ _ _ hd =>
    have hidle := hs.idle (by simp [hd])
    obtain ⟨-, -, -, -, -, -, -, hkept, -⟩ := hs
    exact State.CommandIdle.sound ⟨hidle.state, hidle.current, hidle.held, hidle.snapshot, hidle.start, hidle.cancelling⟩
      (fun _ => hkept (.inl hd)) fun e => (nomatch e)
  | resetWritten _ v _ _ _ => exact (State.commandSound_left s (.inr rfl)).endPassage
  | disabledWritten _ v _ _ _ _ => exact (State.commandSound_left s (.inl rfl)).endPassage
  | pinMoved _ level _ => exact State.CommandIdle.sound ⟨rfl, rfl, rfl, rfl, rfl, rfl⟩ (fun _ => rfl) fun e => (nomatch e)
  | ticked _ =>
    have tick {u : State} (hu : u.CommandSound) (x : Tick) : (u.withTick x).CommandSound := hu
    refine tick ?_ _
    obtain ⟨p, -, hd, -, e⟩ | ⟨-, e⟩ := s.endDueEvaluation_cases
    · rw [e]
      split
      · exact (engine _).evaluateSample p hd
      · exact hs.evaluateSample p hd
    · rwa [e]
  | noticeTaken _ _ _ | expiryRaised w _ _ _ | windowEnded w _ _ _ _ | evaluationBegun p _ _ _ => exact engine _
  | _ => exact kept ⟨rfl, rfl, rfl, rfl, rfl, start, .rfl, rfl, fun _ => rfl⟩

end Sys2Proof.Machine
end

/-! PROOFS. Every ACTIVE entry has its waiting owner (chapter 8), and with it RequestsStayOwned (O46). -/

section
namespace Sys2Proof.Machine

/-! ### Outstanding writes of a slot -/

theorem Slot.checkRequest_outstanding (a : Acquisition) (sl : Slot) :
    (sl.checkRequest a).outstanding = sl.outstanding := by
  obtain ⟨-, -, -, -, h⟩ | h := sl.checkRequest_cases a <;> rw [h]

theorem Slot.close_outstanding (c : CaptureStatus) (sl : Slot) : (sl.close c).outstanding = sl.outstanding := by
  rw [Slot.close_eq]

theorem Slot.onArrival_outstanding (a : Acquisition) (k : Option SampleNo) (sl : Slot) :
    (sl.onArrival a k).outstanding = sl.outstanding := by
  unfold Slot.onArrival
  split
  · split
    · split
      · exact sl.close_outstanding _
      · exact sl.checkRequest_outstanding a
    · exact sl.checkRequest_outstanding a
  · rfl

theorem Slot.onEndOfRun_outstanding (a : Acquisition) (n : SampleNo) (sl : Slot) :
    (sl.onEndOfRun a n).outstanding = sl.outstanding := by
  unfold Slot.onEndOfRun
  split
  · dsimp only
    split
    · rw [Slot.close_outstanding]
    · rw [Slot.checkRequest_outstanding]
  · exact sl.checkRequest_outstanding a

theorem Slot.onCancel_outstanding (named : Bool) (sl : Slot) : (sl.onCancel named).outstanding = sl.outstanding := by
  unfold Slot.onCancel
  split
  · exact sl.close_outstanding _
  · rfl

theorem Slot.onGrant_outstanding (a : Acquisition) (tag : Tag) (sl : Slot) :
    (sl.onGrant a tag).outstanding = sl.outstanding + 1 := by
  unfold Slot.onGrant
  dsimp only
  split
  · rw [Slot.close_outstanding]
  · rw [Slot.checkRequest_outstanding]

theorem Slot.settle_outstanding (sl : Slot) : sl.settle.outstanding = sl.outstanding := by
  unfold Slot.settle
  split <;> rfl

/-- A response lowers the outstanding writes of a sound slot that has one (R80): such a slot is FILLING or CLOSING. -/
theorem Slot.Sound.onResponse_outstanding {sl : Slot} (h : sl.Sound) (hout : sl.outstanding ≠ 0) (a : Acquisition)
    (tag : Tag) (ans : Answer) : (sl.onResponse a tag ans).outstanding = sl.outstanding - 1 := by
  obtain ⟨hfree, -, -, -, -, -, hposting⟩ := h
  unfold Slot.onResponse
  cases hstate : sl.state with
  | free => exact absurd (by rw [hfree hstate]; rfl) hout
  | posting => exact absurd (hposting hstate) hout
  | closing =>
    dsimp only
    rw [Slot.settle_outstanding]
    cases ans <;> rfl
  | filling =>
    cases ans with
    | ok =>
      dsimp only
      split
      · rw [Slot.checkRequest_outstanding]
        rfl
      · rfl
    | error =>
      dsimp only
      rw [Slot.settle_outstanding]
      rfl

/-! ### Who waits -/

/-- How many entries a requester waits for, as its block holds it. -/
def State.waits (s : State) : Requester → Nat
  | .control => if s.ctl.setupRequest = .outstanding then 1 else 0
  | .command => if s.cmd.link = .outstanding then 1 else 0
  | .fetcher => if s.fetch.fetch = .reading then 1 else 0
  | .writer => if s.evt.request = .outstanding then 1 else 0
  | .slot i => (s.slot i).outstanding

/-- Every requester waits for as many entries as it has ACTIVE. -/
def State.Counted (s : State) : Prop := ∀ q, s.port.activeCount q = s.waits q

/-- The Command Unit has a request exactly while it fetches or writes a snapshot. -/
def CommandUnit.LinkFits (u : CommandUnit) : Prop := u.link = .none ↔ u.state ≠ .fetching ∧ u.snapshot = none

/-- The Event Writer has a request exactly while an event is in flight. -/
def EventWriter.RequestFits (e : EventWriter) : Prop := e.inFlight = none ↔ e.request = .none

theorem MemoryPort.someActive_eq_false_iff {m : MemoryPort} : m.someActive = false ↔ ∀ q, m.activeCount q = 0 := by
  refine ⟨fun h q => ?_, fun h => MemoryPort.someActive_eq_false.2 fun tag => ?_⟩
  · refine List.length_eq_zero_iff.2 (List.filter_eq_nil_iff.2 fun tag _ => ?_)
    have hno := MemoryPort.someActive_eq_false.1 h tag
    cases he : tget m.entries tag with
    | free | stale => exact Bool.false_ne_true
    | active o size e =>
      rw [he] at hno
      cases hno
  · cases he : tget m.entries tag with
    | free | stale => rfl
    | active o size e => exact absurd he (MemoryPort.not_active_of_count (h o) tag size e)

/-- RequestsOwned, with the four single requesters and the slots as one. -/
structure State.Owned (s : State) : Prop where
  counted : s.Counted
  disabled : s.ctl.device = .disabled → ∀ q, s.port.activeCount q = 0
  starting : s.ctl.device = .starting → ∀ q, q ≠ .control → s.port.activeCount q = 0
  control : s.ctl.device ≠ .starting → s.standing .control = false
  others : s.ctl.device ≠ .enabled → ∀ q, q ≠ .control → s.standing q = false
  writer : s.evt.RequestFits
  command : s.ctl.device = .enabled → s.cmd.LinkFits

theorem State.requestsOwned_iff (s : State) : s.RequestsOwned ↔ s.Owned := by
  constructor
  · rintro ⟨⟨hcontrol, hcommand, hfetcher, hwriter, hslots⟩, hdis, hstart, hctl, hothers, hfits, hlink⟩
    refine ⟨fun q => ?_, fun hd => MemoryPort.someActive_eq_false_iff.1 (hdis hd), hstart, hctl, hothers, hfits, hlink⟩
    cases q with
    | control => exact hcontrol
    | command => exact hcommand
    | fetcher => exact hfetcher
    | writer => exact hwriter
    | slot i => exact hslots i
  · rintro ⟨hcounted, hdis, hstart, hctl, hothers, hfits, hlink⟩
    exact ⟨⟨hcounted _, hcounted _, hcounted _, hcounted _, fun i => hcounted _⟩,
      fun hd => MemoryPort.someActive_eq_false_iff.2 (hdis hd), hstart, hctl, hothers, hfits, hlink⟩

/-- What an event that ends no entry and grants none leaves: no requester waits for more or fewer entries, and only an
ENABLED part has blocks that ask. -/
structure State.OwnersKept (s t : State) : Prop where
  device : t.ctl.device = s.ctl.device
  entries : t.port.entries = s.port.entries
  waits : ∀ q, t.waits q = s.waits q
  standing : ∀ q, t.standing q = s.standing q ∨ (s.ctl.device = .enabled ∧ q ≠ .control)
  writer : s.evt.RequestFits → t.evt.RequestFits
  command : s.ctl.device = .enabled → s.cmd.LinkFits → t.cmd.LinkFits

theorem MemoryPort.activeCount_congr {m m' : MemoryPort} (h : m'.entries = m.entries) (q : Requester) :
    m'.activeCount q = m.activeCount q := by
  rw [MemoryPort.activeCount, h]
  rfl

/-- The device state is the same, and no requester has more ACTIVE entries. -/
theorem State.Owned.of_fewer {s t : State} (h : s.Owned) (hd : t.ctl.device = s.ctl.device) (hcounted : t.Counted)
    (hfewer : ∀ q, t.port.activeCount q ≤ s.port.activeCount q)
    (hstanding : ∀ q, t.standing q = s.standing q ∨ t.standing q = false ∨ (s.ctl.device = .enabled ∧ q ≠ .control))
    (hwriter : t.evt.RequestFits) (hcommand : s.ctl.device = .enabled → t.cmd.LinkFits) : t.Owned where
  counted := hcounted
  disabled e q := Nat.le_zero.1 (h.disabled (hd ▸ e) q ▸ hfewer q)
  starting e q hq := Nat.le_zero.1 (h.starting (hd ▸ e) q hq ▸ hfewer q)
  control e := by
    obtain g | g | ⟨-, g⟩ := hstanding .control
    · exact g.trans (h.control (hd ▸ e))
    · exact g
    · exact absurd rfl g
  others e q hq := by
    obtain g | g | ⟨g, -⟩ := hstanding q
    · exact g.trans (h.others (hd ▸ e) q hq)
    · exact g
    · exact absurd (hd.trans g) e
  writer := hwriter
  command e := hcommand (hd ▸ e)

theorem State.Owned.of_kept {s t : State} (h : s.Owned) (k : s.OwnersKept t) : t.Owned := by
  have hsame (q : Requester) : t.port.activeCount q = s.port.activeCount q := MemoryPort.activeCount_congr k.entries q
  refine h.of_fewer k.device (fun q => ?_) (fun q => (hsame q).le) (fun q => ?_) (k.writer h.writer) fun e =>
    k.command e (h.command e)
  · rw [hsame, k.waits, h.counted q]
  · obtain g | g := k.standing q
    · exact .inl g
    · exact .inr (.inr g)

/-! ### Changes that leave the waits -/

/-- The blocks that ask are the same. -/
theorem State.OwnersKept.of_same {s t : State} (hdev : t.ctl.device = s.ctl.device)
    (hsetup : t.ctl.setupRequest = s.ctl.setupRequest) (hcmd : t.cmd = s.cmd) (hfetch : t.fetch = s.fetch)
    (hin : t.evt.inFlight = s.evt.inFlight) (hreq : t.evt.request = s.evt.request) (hcap : t.cap = s.cap)
    (hport : t.port.entries = s.port.entries) : s.OwnersKept t := by
  refine ⟨hdev, hport, fun q => ?_, fun q => .inl ?_, ?_, fun _ => ?_⟩
  · cases q <;> simp only [State.waits, State.slot, hsetup, hcmd, hfetch, hreq, hcap]
  · cases q <;> simp only [State.standing, State.slot, hsetup, hcmd, hfetch, hreq, hcap]
  · rw [EventWriter.RequestFits, EventWriter.RequestFits, hin, hreq]
    exact id
  · rw [hcmd]
    exact id

theorem State.Owned.withEng {s : State} (h : s.Owned) (e : WatchEngine) : (s.withEng e).Owned :=
  h.of_kept (.of_same rfl rfl rfl rfl rfl rfl rfl rfl)

/-- In ENABLED the slots may ask, as long as each has its outstanding writes. -/
theorem State.OwnersKept.of_slots {s : State} {c : CaptureUnit} (hd : s.ctl.device = .enabled)
    (h : ∀ i, (tget c.slots i).outstanding = (s.slot i).outstanding) : s.OwnersKept (s.withCap c) := by
  refine ⟨rfl, rfl, fun q => ?_, fun q => ?_, id, fun _ => id⟩
  · cases q with
    | slot i => exact h i
    | _ => rfl
  · cases q with
    | slot i => exact .inr ⟨hd, fun e => (nomatch e)⟩
    | _ => exact .inl rfl

theorem State.Owned.withCap {s : State} (h : s.Owned) {c : CaptureUnit} (hd : s.ctl.device = .enabled)
    (hc : ∀ i, (tget c.slots i).outstanding = (s.slot i).outstanding) : (s.withCap c).Owned :=
  h.of_kept (.of_slots hd hc)

theorem State.Owned.withAcq {s : State} (h : s.Owned) (a : Acquisition) : (s.withAcq a).Owned :=
  h.of_kept (.of_same rfl rfl rfl rfl rfl rfl rfl rfl)

/-- A completion leaves the Command Unit's request: the command was in EXECUTING (R141). -/
theorem CommandUnit.LinkFits.complete {u : CommandUnit} (h : u.LinkFits) (hexec : u.current ≠ none → u.state = .executing)
    (st : CmdStatus) : (u.complete st).LinkFits := by
  cases hcurrent : u.current with
  | none => rwa [CommandUnit.complete_of_none hcurrent]
  | some cur =>
    have hexec := hexec (by simp [hcurrent])
    rw [CommandUnit.complete_of_current hcurrent]
    refine Iff.trans h ⟨fun e => ⟨fun g => (nomatch g), e.2⟩, fun e => ⟨fun g => ?_, e.2⟩⟩
    cases hexec.symm.trans g

theorem State.CommandSound.executing {s : State} (h : s.CommandSound) : s.cmd.current ≠ none → s.cmd.state = .executing := by
  obtain ⟨hcur, -⟩ := h
  exact hcur.2

theorem State.complete_waits (s : State) (st : CmdStatus) (q : Requester) : (s.complete st).waits q = s.waits q := by
  cases q with
  | command => exact congrArg (fun x => if x = LinkState.outstanding then 1 else 0) (s.cmd.complete_link st)
  | _ => rfl

theorem State.complete_standing (s : State) (st : CmdStatus) (q : Requester) :
    (s.complete st).standing q = s.standing q := by
  cases q with
  | command => exact congrArg (· == LinkState.standing) (s.cmd.complete_link st)
  | _ => rfl

theorem State.Owned.complete {s : State} (h : s.Owned) (hexec : s.cmd.current ≠ none → s.cmd.state = .executing)
    (st : CmdStatus) : (s.complete st).Owned :=
  h.of_kept ⟨rfl, rfl, s.complete_waits st, fun q => .inl (s.complete_standing st q), id,
    fun _ hfits => hfits.complete hexec st⟩

theorem State.checkStart_linkFits {s : State} (h : s.cmd.LinkFits)
    (hexec : s.cmd.current ≠ none → s.cmd.state = .executing) : s.checkStart.cmd.LinkFits := by
  obtain ⟨-, e⟩ | ⟨-, e⟩ := s.checkStart_cases
  · rw [e]
    exact h.complete hexec .ok
  · rwa [e]

theorem State.checkStart_waits (s : State) (q : Requester) : s.checkStart.waits q = s.waits q := by
  obtain ⟨-, h⟩ | ⟨-, h⟩ := s.checkStart_cases
  · rw [h, State.takeStart, State.complete_waits]
    cases q <;> rfl
  · rw [h]

theorem State.Owned.checkStart {s : State} (h : s.Owned) (hexec : s.cmd.current ≠ none → s.cmd.state = .executing) :
    s.checkStart.Owned := by
  refine h.of_kept ⟨?_, ?_, s.checkStart_waits, fun q => .inl (s.checkStart_standing q), ?_,
    fun _ hfits => State.checkStart_linkFits hfits hexec⟩ <;> rw [State.checkStart_frame]
  exact id

theorem State.Owned.checkBufferFetch {s : State} (h : s.Owned) : s.checkBufferFetch.Owned := by
  obtain ⟨⟨hd, hidle, -⟩, e⟩ | ⟨-, e⟩ := s.checkBufferFetch_cases
  · rw [e]
    refine h.of_kept ⟨rfl, rfl, fun q => ?_, fun q => ?_, id, fun _ => id⟩
    · cases q with
      | fetcher => simp [State.waits, hidle]
      | _ => rfl
    · cases q with
      | fetcher => exact .inr ⟨hd, fun e => (nomatch e)⟩
      | _ => exact .inl rfl
  · rwa [e]

/-- A snapshot content waits in EXECUTING only (R143). -/
theorem State.CommandSound.snapshot_none {s : State} (h : s.CommandSound) (hne : s.cmd.state ≠ .executing) :
    s.cmd.snapshot = none := by
  obtain ⟨hcur, -, hsnap, -⟩ := h
  by_contra e
  have hk := hsnap e
  rw [State.CurrentKind, Option.map_eq_some_iff] at hk
  obtain ⟨cur, hcurrent, -⟩ := hk
  exact hne (hcur.2 (by simp [hcurrent]))

/-- While the Command Unit is IDLE it has no request. -/
theorem State.CommandSound.link_none {s : State} (h : s.CommandSound) (hidle : s.cmd.state = .idle)
    (hfits : s.cmd.LinkFits) : s.cmd.link = .none :=
  hfits.2 ⟨by simp [hidle], h.snapshot_none (by simp [hidle])⟩

theorem State.Owned.checkCommandFetch {s : State} (h : s.Owned) (hc : s.CommandSound) : s.checkCommandFetch.Owned := by
  obtain ⟨hd, hidle, -, e⟩ | ⟨-, e⟩ := s.checkCommandFetch_cases
  · rw [e]
    have hlink := hc.link_none hidle (h.command hd)
    refine h.of_kept ⟨rfl, rfl, fun q => ?_, fun q => ?_, id, fun _ _ => ?_⟩
    · cases q with
      | command => simp [State.waits, hlink]
      | _ => rfl
    · cases q with
      | command => exact .inr ⟨hd, fun e => (nomatch e)⟩
      | _ => exact .inl rfl
    · exact ⟨fun e => (nomatch e), fun e => absurd rfl e.1⟩
  · rwa [e]

/-! ### Evaluations -/

theorem Slot.CutAt.outstanding {sl x : Slot} {newest : Option SampleNo} {n : SampleNo} (h : sl.CutAt newest n x) :
    x.outstanding = sl.outstanding := by
  unfold Slot.CutAt at h
  dsimp only at h
  split at h
  · split at h
    · rw [h.1]
    · rw [h]
  · rw [h.1]

theorem Slot.allocated_outstanding (a : Acquisition) (mark : Option SampleNo) (w : WatchId) (k : SampleNo) (pre post : Nat)
    (d : Descriptor) : (Slot.allocated a mark w k pre post d).outstanding = 0 := by
  obtain ⟨-, h⟩ | ⟨m, -, -, h⟩ | ⟨m, -, -, h⟩ := Slot.allocated_cases a mark w k pre post d <;> rw [h] <;> rfl

/-- A slot after the requests of an evaluation: as it was, or allocated from FREE with a descriptor of the cache (R70). -/
theorem State.requested_slot_cases {s : State} (p : PresentedSample) (hd : s.ctl.device = .enabled) (i : SlotId) :
    (s.requested p).slot i = s.slot i ∨
      ((s.slot i).state = .free ∧ ∃ w, ∃ d ∈ s.cap.cache, (s.requested p).slot i = s.allocatedSlot p w d) := by
  have hserved := State.requested_served p hd
  by_cases hi : ∃ r ∈ s.served (s.requesters p), r.1.2 = i
  · obtain ⟨⟨⟨w, j⟩, d⟩, hmem, rfl⟩ := hi
    have hfree : (s.slot j).state = .free := by
      have := State.mem_freeSlots_of_served hmem
      rw [State.freeSlots, List.mem_filter, beq_iff_eq] at this
      exact this.2
    exact .inr ⟨hfree, w, d, (List.of_mem_zip hmem).2, hserved.taken_of_withEng
      (fun v => by rw [WatchEngine.evaluateAll_watch, Watch.evaluate_config]; rfl) hmem⟩
  · push Not at hi
    exact .inl (hserved.others_of_withEng hi)

/-- A slot allocated was FREE and had no write outstanding; no other slot's change (R70). -/
theorem State.requested_outstanding {s : State} (p : PresentedSample) (hd : s.ctl.device = .enabled)
    (hs : ∀ i, (s.slot i).Sound) (i : SlotId) : ((s.requested p).slot i).outstanding = (s.slot i).outstanding := by
  obtain h | ⟨hfree, w, d, -, h⟩ := State.requested_slot_cases p hd i
  · rw [h]
  · obtain ⟨hempty, -⟩ := hs i
    rw [h, State.allocatedSlot, Slot.checkRequest_outstanding, Slot.allocated_outstanding, hempty hfree]
    rfl

theorem State.evaluated_outstanding {s : State} (p : PresentedSample) (hd : s.ctl.device = .enabled)
    (hs : ∀ i, (s.slot i).Sound) (i : SlotId) : ((s.evaluated p).slot i).outstanding = (s.slot i).outstanding := by
  rw [← State.requested_outstanding p hd hs i]
  have h := s.evaluated_slot p i
  split at h
  · exact h.outstanding
  · rw [h]

/-- An evaluation leaves every requester's waits (R70, R100). -/
theorem State.ownersKept_evaluated {s : State} (p : PresentedSample) (hd : s.ctl.device = .enabled)
    (hs : ∀ i, (s.slot i).Sound) : s.OwnersKept (s.evaluated p) := by
  have hslots := State.evaluated_outstanding p hd hs
  have hreading : (s.evaluated p).fetch.fetch = .reading ↔ s.fetch.fetch = .reading := by
    rw [s.evaluated_fetch p, (State.requested_served p hd).fetch_of_withEng]
    dsimp only
    split
    next h => simp [h.2.1]
    next => rfl
  have hframe := s.evaluated_frame p
  generalize s.evaluated p = t at *
  have hctl : t.ctl = s.ctl := by rw [hframe]
  have hcmd : t.cmd = s.cmd := by rw [hframe]
  have hevt : t.evt = s.evt := by rw [hframe]
  refine ⟨congrArg Control.device hctl, by rw [hframe], fun q => ?_, fun q => ?_, by rw [hevt]; exact id,
    fun _ => by rw [hcmd]; exact id⟩
  · cases q with
    | slot i => exact hslots i
    | fetcher => simp only [State.waits, hreading]
    | control | command | writer => simp only [State.waits, hctl, hcmd, hevt]
  · by_cases hq : q = .control
    · exact .inl (by rw [hq]; simp only [State.standing, hctl])
    · exact .inr ⟨hd, hq⟩

theorem State.Owned.evaluateSample {s : State} (h : s.Owned) (p : PresentedSample) (hd : s.ctl.device = .enabled)
    (hs : ∀ i, (s.slot i).Sound) (hc : s.CommandSound) : (s.evaluateSample p).Owned := by
  rw [s.evaluateSample_eq, State.closeSample_eq]
  exact (h.of_kept (State.ownersKept_evaluated p hd hs)).checkStart
    (hc.of_kept (State.commandKept_evaluated p hd)).executing

/-! ### Grants -/

/-- How many entries each requester has ACTIVE after a grant: one more at the requester granted (R152). -/
theorem State.issueGrant_activeCount {s : State} {tag : Tag} (htag : s.port.freeTag = some tag) (p q : Requester) :
    (s.issueGrant q tag).port.activeCount p = s.port.activeCount p + if q = p then 1 else 0 := by
  have h := MemoryPort.activeCount_tset (m := s.port) (m' := (s.issueGrant q tag).port) (tag := tag)
    (x := .active q (s.formRequest tag q).size s.grantExpiry) p rfl
  rw [MemoryPort.freeTag_eq_some htag, PortEntry.ownedCount_free, PortEntry.ownedCount_active] at h
  exact h

theorem State.waits_withPort (s : State) (m : MemoryPort) (q : Requester) : (s.withPort m).waits q = s.waits q := by
  cases q <;> rfl

/-- The requester granted waits for one entry more, and no other does (R152). -/
theorem State.issueGrant_waits {s : State} {q : Requester} (hq : s.standing q = true) (tag : Tag) (p : Requester) :
    (s.issueGrant q tag).waits p = s.waits p + if q = p then 1 else 0 := by
  rw [State.issueGrant_frame, State.waits_withPort]
  cases q with
  | control =>
    have : s.ctl.setupRequest = .standing := by simpa [State.standing] using hq
    cases p with
    | control => simp [State.waits, State.tellGranted, this]
    | _ => rfl
  | command =>
    have : s.cmd.link = .standing := by simpa [State.standing] using hq
    cases p with
    | command => simp [State.waits, State.tellGranted, this]
    | _ => rfl
  | fetcher =>
    have : s.fetch.fetch = .requested := by simpa [State.standing] using hq
    cases p with
    | fetcher => simp [State.waits, State.tellGranted, this]
    | _ => rfl
  | writer =>
    have : s.evt.request = .standing := by simpa [State.standing] using hq
    cases p with
    | writer => simp [State.waits, State.tellGranted, this]
    | _ => rfl
  | slot i =>
    refine (State.checkStart_waits _ p).trans ?_
    cases p with
    | slot j =>
      show ((s.setSlot i _).slot j).outstanding = (s.slot j).outstanding + _
      rw [State.setSlot_slot]
      by_cases hj : j = i
      · rw [if_pos hj, if_pos (congrArg Requester.slot hj.symm), hj, Slot.onGrant_outstanding]
      · rw [if_neg hj, if_neg (fun e => hj (Requester.slot.inj e).symm)]
        rfl
    | _ => rfl

/-- The grant of a standing request, in STARTING that of the Control Unit (R151, R152). -/
theorem State.Owned.issueGrant {s : State} (h : s.Owned) (hc : s.CommandSound)
    (hd : s.ctl.device = .starting ∨ s.ctl.device = .enabled) {q : Requester} (hq : s.standing q = true) {tag : Tag}
    (htag : s.port.freeTag = some tag) : (s.issueGrant q tag).Owned := by
  have hdev : (s.issueGrant q tag).ctl.device = s.ctl.device := by
    cases q with
    | slot i =>
      rw [State.issueGrant_slot, State.checkStart_frame]
      rfl
    | _ => rfl
  have hcount := State.issueGrant_activeCount (q := q) htag
  have hcontrol (hd : s.ctl.device = .starting) : q = .control := by
    by_contra hne
    cases (h.others (by simp [hd]) q hne).symm.trans hq
  have hnotcontrol (hd : s.ctl.device = .enabled) : q ≠ .control := by
    rintro rfl
    cases (h.control (by simp [hd])).symm.trans hq
  refine ⟨fun p => ?_, fun e => ?_, fun e p hp => ?_, fun e => ?_, fun e => ?_, ?_, fun e => ?_⟩
  · rw [hcount, State.issueGrant_waits hq, h.counted]
  · rw [hdev] at e
    obtain hd | hd := hd <;> cases hd.symm.trans e
  · have hs : s.ctl.device = .starting := hdev ▸ e
    rw [hcount, hcontrol hs, if_neg (Ne.symm hp), h.starting hs p hp]
  · have hs : s.ctl.device ≠ .starting := fun g => e (hdev.trans g)
    rw [State.issueGrant_standing s (Ne.symm (hnotcontrol (hd.resolve_left hs))) tag]
    exact h.control hs
  · have hs : s.ctl.device ≠ .enabled := fun g => e (hdev.trans g)
    intro p hp
    rw [State.issueGrant_standing s (by rw [hcontrol (hd.resolve_right hs)]; exact hp) tag]
    exact h.others hs p hp
  · cases q with
    | writer =>
      have : s.evt.request = .standing := by simpa [State.standing] using hq
      have hin : s.evt.inFlight ≠ none := fun e => by cases this.symm.trans (h.writer.1 e)
      exact ⟨fun e => absurd e hin, fun e => (nomatch e)⟩
    | slot i =>
      have : (s.issueGrant (.slot i) tag).evt = s.evt := by rw [State.issueGrant_slot, State.checkStart_frame]; rfl
      rw [this]
      exact h.writer
    | _ => exact h.writer
  · have hs : s.ctl.device = .enabled := hdev.symm.trans e
    cases q with
    | command =>
      have : s.cmd.link = .standing := by simpa [State.standing] using hq
      have hfits := h.command hs
      exact ⟨fun e => (nomatch e), fun g => by cases this.symm.trans (hfits.2 g)⟩
    | slot i =>
      rw [State.issueGrant_slot]
      exact State.checkStart_linkFits (h.command hs) hc.executing
    | _ => exact h.command hs

/-! ### Leaving ENABLED, and the passages -/

theorem State.stop_waits_slot (s : State) (i : SlotId) : (tget s.cap.stop.slots i).outstanding = (s.slot i).outstanding := by
  rw [State.stop_slot]

theorem EventWriter.RequestFits.stop {e : EventWriter} (h : e.RequestFits) (held : Option CmdDone) :
    (e.stop held).RequestFits := by
  unfold EventWriter.RequestFits EventWriter.stop at *
  by_cases hr : e.request = .outstanding
  · simp [hr] at h ⊢
    exact h
  · simp [hr]

/-- Stopped blocks go on waiting for their outstanding entries, and ask for none (R131, R146, R154). -/
theorem State.Counted.stopped {s t : State} (h : s.Counted) (hcap : t.cap = s.cap.stop) (hfetch : t.fetch = s.fetch.withdraw)
    (hcmd : t.cmd = s.cmd.abandon) (hreq : t.evt.request = (s.evt.stop s.cmd.held).request)
    (hsetup : t.ctl.setupRequest = if s.ctl.setupRequest = .outstanding then .outstanding else .none)
    (hport : t.port = s.port) : t.Counted ∧ ∀ q, t.standing q = false := by
  refine ⟨fun q => ?_, fun q => ?_⟩
  · rw [hport, h q]
    cases q with
    | control =>
      rw [State.waits, State.waits, hsetup]
      by_cases e : s.ctl.setupRequest = .outstanding <;> simp [e]
    | command =>
      rw [State.waits, State.waits, hcmd, CommandUnit.abandon]
      by_cases e : s.cmd.link = .outstanding <;> simp [e]
    | fetcher =>
      rw [State.waits, State.waits, hfetch, Fetcher.withdraw]
      by_cases e : s.fetch.fetch = .reading <;> simp [e]
    | writer =>
      rw [State.waits, State.waits, hreq, EventWriter.stop]
      by_cases e : s.evt.request = .outstanding <;> simp [e]
    | slot i =>
      simp only [State.waits]
      rw [State.slot, State.slot, hcap, State.stop_waits_slot]
      rfl
  · cases q with
    | control =>
      rw [State.standing, hsetup]
      by_cases e : s.ctl.setupRequest = .outstanding <;> simp [e]
    | command =>
      rw [State.standing, hcmd, CommandUnit.abandon]
      by_cases e : s.cmd.link = .outstanding <;> simp [e]
    | fetcher =>
      rw [State.standing, hfetch, Fetcher.withdraw]
      by_cases e : s.fetch.fetch = .reading <;> simp [e]
    | writer =>
      rw [State.standing, hreq, EventWriter.stop]
      by_cases e : s.evt.request = .outstanding <;> simp [e]
    | slot i =>
      rw [State.standing, State.slot, hcap, State.stop_slot]

/-- FAULTED, STOPPING and RESETTING with no block asking. -/
theorem State.Owned.of_stopped {t : State} (hcounted : t.Counted) (hnone : ∀ q, t.standing q = false)
    (hfits : t.evt.RequestFits)
    (hd : t.ctl.device ≠ .disabled ∧ t.ctl.device ≠ .starting ∧ t.ctl.device ≠ .enabled) : t.Owned :=
  ⟨hcounted, fun e => absurd e hd.1, fun e => absurd e hd.2.1, fun _ => hnone _, fun _ q _ => hnone q, hfits,
    fun e => absurd e hd.2.2⟩

theorem State.Counted.enterFaulted {s : State} (h : s.Counted) (hfits : s.evt.RequestFits) (code : FaultCode) :
    (s.enterFaulted code).Owned := by
  obtain ⟨hcounted, hnone⟩ := State.Counted.stopped (t := s.enterFaulted code) h (by rw [s.enterFaulted_eq])
    (by rw [s.enterFaulted_eq]) (by rw [s.enterFaulted_eq]) (by rw [s.enterFaulted_eq]) (by rw [s.enterFaulted_eq])
    (by rw [s.enterFaulted_eq])
  refine .of_stopped hcounted hnone ?_ ?_ <;> rw [s.enterFaulted_eq]
  · exact hfits.stop s.cmd.held
  · exact ⟨by simp, by simp, by simp⟩

theorem State.Owned.left {s : State} (h : s.Owned) {d : DeviceState} (hd : d = .stopping ∨ d = .resetting) :
    (s.left d).Owned := by
  have hne : d ≠ .enabled := by obtain rfl | rfl := hd <;> decide
  obtain ⟨hcounted, hnone⟩ := State.Counted.stopped (t := s.left d) h.counted (by rw [s.left_eq hne])
    (by rw [s.left_eq hne]) (by rw [s.left_eq hne]) (by rw [s.left_eq hne]) (by rw [s.left_eq hne])
    (by rw [s.left_eq hne])
  refine .of_stopped hcounted hnone ?_ ?_
  · rw [s.left_eq hne]
    exact h.writer.stop _
  · rw [s.left_device hne]
    obtain rfl | rfl := hd <;> decide

/-- DISABLED: no entry is ACTIVE, and no block waits or asks. -/
theorem State.Owned.of_disabled {t : State} (hno : t.port.someActive = false) (hd : t.ctl.device = .disabled)
    (hcap : t.cap = .cleared) (hfetch : t.fetch.fetch = .idle) (hlink : t.cmd.link = .none)
    (hreq : t.evt.request = .none) (hin : t.evt.inFlight = none) (hsetup : t.ctl.setupRequest = .none) : t.Owned := by
  have hcount := MemoryPort.someActive_eq_false_iff.1 hno
  have hslot (i : SlotId) : t.slot i = .freeSlot := by
    rw [State.slot, hcap]
    exact tget_replicate _ i
  have hstanding (q : Requester) : t.standing q = false := by
    cases q <;> simp only [State.standing, hfetch, hlink, hreq, hsetup, hslot] <;> rfl
  refine ⟨fun q => ?_, fun _ => hcount, fun _ q _ => hcount q, fun _ => hstanding _, fun _ q _ => hstanding q, ?_,
    fun e => ?_⟩
  · rw [hcount]
    cases q <;> simp only [State.waits, hfetch, hlink, hreq, hsetup, hslot] <;> rfl
  · exact ⟨fun _ => hreq, fun _ => hin⟩
  · cases hd.symm.trans e

theorem State.Owned.endPassage {s : State} (h : s.Owned) : s.endPassage.Owned := by
  obtain ⟨hno, -, e⟩ | ⟨hno, -, e⟩ | ⟨-, e⟩ := s.endPassage_cases
  · rw [e]
    exact .of_disabled hno rfl rfl rfl rfl rfl rfl rfl
  · rw [e]
    exact .of_disabled hno rfl rfl rfl rfl rfl rfl rfl
  · rwa [e]

/-! ### Ended entries -/

/-- The count of every requester after an entry ends: one less at its owner. -/
theorem State.activeCount_ended {s : State} {c : Instr} {tag : Tag} {q : Requester} {size : Nat} {e : Option Tick}
    {x : PortEntry} (he : s.entry tag = .active q size e) (hx : EndsEntry c tag size e x) (p : Requester) :
    (s.setEntry tag x).port.activeCount p + (if q = p then 1 else 0) = s.port.activeCount p := by
  have h := MemoryPort.activeCount_tset (m := s.port) (m' := (s.setEntry tag x).port) (tag := tag) (x := x) p rfl
  rw [show tget s.port.entries tag = .active q size e from he, PortEntry.ownedCount_active] at h
  obtain ⟨-, rfl⟩ | ⟨-, e', -, rfl⟩ := hx <;> simpa using h

section
variable {s u : State} {c : Instr} {tag : Tag} {q : Requester} {size : Nat} {e : Option Tick} {x : PortEntry}

/-- An ACTIVE entry's owner waits for it. -/
theorem State.Owned.waits_pos (h : s.Owned) (he : s.entry tag = .active q size e) : 0 < s.waits q := by
  rw [← h.counted q]
  by_contra hno
  exact MemoryPort.not_active_of_count (Nat.eq_zero_of_not_pos hno) tag size e he

/-- The owner told of the end waits for one entry less. -/
theorem State.Owned.counted_ended (h : s.Owned) (he : s.entry tag = .active q size e) (hx : EndsEntry c tag size e x)
    (hentries : u.port.entries = (s.setEntry tag x).port.entries)
    (hown : u.waits q = s.waits q - 1) (hother : ∀ p, p ≠ q → u.waits p = s.waits p) : u.Counted := by
  intro p
  have hcount := State.activeCount_ended he hx p
  rw [h.counted p] at hcount
  rw [MemoryPort.activeCount_congr hentries]
  by_cases hp : p = q
  · subst hp
    rw [if_pos rfl] at hcount
    omega
  · rw [if_neg (Ne.symm hp)] at hcount
    rw [hother p hp]
    omega

/-- The owner told of the end goes on in the same device state. -/
theorem State.Owned.of_ended (h : s.Owned) (he : s.entry tag = .active q size e) (hx : EndsEntry c tag size e x)
    (hd : u.ctl.device = s.ctl.device) (hentries : u.port.entries = (s.setEntry tag x).port.entries)
    (hown : u.waits q = s.waits q - 1) (hother : ∀ p, p ≠ q → u.waits p = s.waits p)
    (hstanding : ∀ p, u.standing p = s.standing p ∨ u.standing p = false ∨ (s.ctl.device = .enabled ∧ p ≠ .control))
    (hwriter : u.evt.RequestFits) (hcommand : s.ctl.device = .enabled → u.cmd.LinkFits) : u.Owned := by
  refine h.of_fewer hd (h.counted_ended he hx hentries hown hother) (fun p => ?_) hstanding hwriter hcommand
  have hcount := State.activeCount_ended he hx p
  rw [MemoryPort.activeCount_congr hentries]
  omega

/-- An ACTIVE entry's slot changes its outstanding writes by one (R80, R94, R95). -/
theorem State.Owned.slot_ended (h : s.Owned) {i : SlotId} (he : s.entry tag = .active (.slot i) size e)
    (hx : EndsEntry c tag size e x) {y : Slot} (hy : y.outstanding = (s.slot i).outstanding - 1)
    (hask : s.ctl.device = .enabled ∨ y.requestStanding = (s.slot i).requestStanding) :
    ((s.setEntry tag x).setSlot i y).Owned := by
  have hslot (j : SlotId) : ((s.setEntry tag x).setSlot i y).slot j = if j = i then y else s.slot j :=
    State.setSlot_slot (s.setEntry tag x) i j y
  refine h.of_ended he hx rfl rfl ?_ (fun p hp => ?_) (fun p => ?_) h.writer h.command
  · rw [State.waits, hslot, if_pos rfl, hy]
    rfl
  · cases p with
    | slot j =>
      rw [State.waits, hslot, if_neg fun e => hp (congrArg Requester.slot e)]
      rfl
    | _ => rfl
  · cases p with
    | slot j =>
      obtain hd | hsame := hask
      · exact .inr (.inr ⟨hd, fun e => (nomatch e)⟩)
      · refine .inl ?_
        rw [State.standing, hslot]
        split
        next hj => rw [hsame, hj]; rfl
        next => rfl
    | _ => exact .inl rfl

/-- The Command Unit told of an end: its link is free, and in ENABLED it fetches no more. -/
theorem State.Owned.command_ended (h : s.Owned) (he : s.entry tag = .active .command size e)
    (hx : EndsEntry c tag size e x) {v : CommandUnit} (hlink : v.link = .none)
    (hfits : s.ctl.device = .enabled → v.state ≠ .fetching ∧ v.snapshot = none) :
    ((s.setEntry tag x).withCmd v).Owned := by
  refine h.of_ended he hx rfl rfl ?_ (fun p hp => ?_) (fun p => ?_) h.writer fun hd =>
    ⟨fun _ => hfits hd, fun _ => hlink⟩
  · simp only [State.waits, State.withCmd_cmd, hlink]
    rw [if_neg (by decide)]
    split <;> rfl
  · cases p with
    | command => exact absurd rfl hp
    | _ => rfl
  · cases p with
    | command => exact .inr (.inl (by simp [State.standing, hlink]))
    | _ => exact .inl rfl

theorem State.Owned.fetcher_ended (h : s.Owned) (he : s.entry tag = .active .fetcher size e)
    (hx : EndsEntry c tag size e x) {f : Fetcher} (hf : f.fetch = .idle) (y : CaptureUnit)
    (hslots : y.slots = s.cap.slots) : (((s.setEntry tag x).withCap y).withFetch f).Owned := by
  have hslot (j : SlotId) : (((s.setEntry tag x).withCap y).withFetch f).slot j = s.slot j :=
    congrArg (tget · j) hslots
  refine h.of_ended he hx rfl rfl ?_ (fun p hp => ?_) (fun p => ?_) h.writer h.command
  · simp only [State.waits, State.withFetch_fetch, hf]
    rw [if_neg (by decide)]
    split <;> rfl
  · cases p with
    | fetcher => exact absurd rfl hp
    | slot j => exact congrArg Slot.outstanding (hslot j)
    | _ => rfl
  · cases p with
    | fetcher => exact .inr (.inl (by simp [State.standing, hf]))
    | slot j => exact .inl (congrArg Slot.requestStanding (hslot j))
    | _ => exact .inl rfl

theorem State.Owned.writer_ended (h : s.Owned) (he : s.entry tag = .active .writer size e)
    (hx : EndsEntry c tag size e x) {v : EventWriter} (hreq : v.request = .none) (hin : v.inFlight = none) :
    ((s.setEntry tag x).withEvt v).Owned := by
  refine h.of_ended he hx rfl rfl ?_ (fun p hp => ?_) (fun p => ?_) ⟨fun _ => hreq, fun _ => hin⟩ h.command
  · simp only [State.waits, State.withEvt_evt, hreq]
    rw [if_neg (by decide)]
    split <;> rfl
  · cases p with
    | writer => exact absurd rfl hp
    | _ => rfl
  · cases p with
    | writer => exact .inr (.inl (by simp [State.standing, hreq]))
    | _ => exact .inl rfl

theorem State.Owned.control_ended (h : s.Owned) (he : s.entry tag = .active .control size e)
    (hx : EndsEntry c tag size e x) {v : Control} (hd : v.device = s.ctl.device) (hreq : v.setupRequest = .none) :
    ((s.setEntry tag x).withCtl v).Owned := by
  refine h.of_ended he hx hd rfl ?_ (fun p hp => ?_) (fun p => ?_) h.writer h.command
  · simp only [State.waits, State.withCtl_ctl, hreq]
    rw [if_neg (by decide)]
    split <;> rfl
  · cases p with
    | control => exact absurd rfl hp
    | _ => rfl
  · cases p with
    | control => exact .inr (.inl (by simp [State.standing, hreq]))
    | _ => exact .inl rfl

end

/-- The entry into ENABLED: the Control Unit's entry was the only one (R151, R172). -/
theorem State.Owned.enterEnabled {s : State} (h : s.Owned) (hd : s.ctl.device = .starting)
    (hreq : s.ctl.setupRequest = .none) (b : Setup) : (s.enterEnabled b).Owned := by
  have hwriter : s.evt.request = .none := by
    have hcount := h.counted .writer
    rw [h.starting hd _ (by decide), State.waits] at hcount
    have hstand := h.others (by simp [hd]) .writer (by decide)
    cases hr : s.evt.request with
    | none => rfl
    | standing => simp [State.standing, hr] at hstand
    | outstanding => simp [hr] at hcount
  have hcount (q : Requester) : s.port.activeCount q = 0 := by
    by_cases hq : q = .control
    · rw [hq, h.counted, State.waits, hreq]
      rfl
    · exact h.starting hd q hq
  refine ⟨fun q => (hcount q).trans ?_, fun e => (nomatch e), fun e => (nomatch e), fun _ => rfl,
    fun e => absurd rfl e, ⟨fun _ => hwriter, fun _ => rfl⟩, fun _ => ⟨fun _ => ⟨fun e => (nomatch e), rfl⟩, fun _ => rfl⟩⟩
  cases q with
  | writer =>
    show 0 = if s.evt.request = .outstanding then 1 else 0
    rw [hwriter]
    rfl
  | slot i => exact (hcount (.slot i)).symm.trans (h.counted (.slot i))
  | _ => rfl

/-- An event written, or absorbed. -/
theorem EventWriter.advance_count_cleared (v : EventWriter) (tick : Tick) :
    (v.advance.count tick).request = .none ∧ (v.advance.count tick).inFlight = none := by
  rw [EventWriter.count_frame]
  exact ⟨rfl, rfl⟩

theorem CommandUnit.take_link (u : CommandUnit) (r : CommandRecord) :
    (u.take r).link = .none ∧ (u.take r).state ≠ .fetching ∧ (u.take r).snapshot = u.snapshot := by
  unfold CommandUnit.take
  cases r.takeRefusal with
  | some st => exact ⟨rfl, fun e => (nomatch e), rfl⟩
  | none =>
    dsimp only
    split <;> exact ⟨rfl, fun e => (nomatch e), rfl⟩

theorem State.Delivered.owned {s t : State} {c : Instr} {tag : Tag} {ans : Answer} {data : ReadData} {q : Requester}
    {size : Nat} {e : Option Tick} {x : PortEntry} (h : (s.setEntry tag x).Delivered tag ans data q t)
    (he : s.entry tag = .active q size e) (hx : EndsEntry c tag size e x) (hs : s.Owned) (hslots : ∀ i, (s.slot i).Sound)
    (hc : s.CommandSound) : t.Owned := by
  have hset : (s.setEntry tag x).CommandSound :=
    hc.of_kept ⟨rfl, rfl, rfl, rfl, rfl, fun e => ⟨e, .inl rfl⟩, .rfl, rfl, fun _ => rfl⟩
  cases h with
  | setupAbsorbed _ => exact hs.control_ended he hx rfl rfl
  | setupFailed code hd _ =>
    have hu := hs.control_ended he hx (v := { s.ctl with setupRequest := .none }) rfl rfl
    exact hu.counted.enterFaulted hu.writer code
  | setupTaken hd _ _ =>
    have hu := hs.control_ended he hx (v := { s.ctl with setupRequest := .none }) rfl rfl
    exact hu.enterEnabled hd rfl _
  | commandAbsorbed hidle =>
    refine hs.command_ended he hx rfl fun hd => ?_
    have hidle := hidle.resolve_left (fun e => e hd)
    refine ⟨?_, hc.snapshot_none ?_⟩
    · obtain g | g := hidle <;> exact fun e => (nomatch e.symm.trans g)
    · obtain g | g := hidle <;> exact fun e => (nomatch e.symm.trans g)
  | recordTaken hd hf _ =>
    obtain ⟨hlink, hstate, hsnap⟩ := s.cmd.take_link (commandRecordOf data)
    exact hs.command_ended he hx hlink fun _ =>
      ⟨hstate, hsnap.trans (hc.snapshot_none fun e => (nomatch e.symm.trans hf))⟩
  | recordFailed hd hf _ =>
    have hu := hs.command_ended he hx (v := { s.cmd with state := .idle, link := .none }) rfl fun _ =>
      ⟨fun e => (nomatch e), hc.snapshot_none fun e => (nomatch e.symm.trans hf)⟩
    exact hu.counted.enterFaulted hu.writer _
  | snapshotAnswered hd hexec =>
    refine hs.command_ended he hx ?_ fun _ => ?_
    · exact CommandUnit.complete_link _ _
    · have hfits : ({ s.cmd with snapshot := none, link := .none } : CommandUnit).LinkFits :=
        ⟨fun _ => ⟨fun e => (nomatch hexec.symm.trans e), rfl⟩, fun _ => rfl⟩
      exact (hfits.complete (fun _ => hexec) _).1 (CommandUnit.complete_link _ _)
  | batchAbsorbed _ => exact hs.fetcher_ended he hx rfl s.cap rfl
  | batchTaken b _ _ _ =>
    exact State.Owned.checkBufferFetch (hs.fetcher_ended he hx
      (f := { s.fetch with
        rejections := (takeDescriptors data b.first b.length 0 (s.cap.cache, s.fetch.rejections)).2
        head := (s.fetch.head + b.length) % s.fetch.size, fetch := .idle, batch := none })
      rfl { s.cap with cache := (takeDescriptors data b.first b.length 0 (s.cap.cache, s.fetch.rejections)).1 } rfl)
  | batchFailed b _ _ _ =>
    have hu := hs.fetcher_ended he hx (f := { s.fetch with fetch := .idle, batch := none }) rfl s.cap rfl
    exact hu.counted.enterFaulted hu.writer _
  | eventAbsorbed _ _ => exact hs.writer_ended he hx rfl rfl
  | eventWritten hd _ =>
    obtain ⟨hreq, hin⟩ := s.evt.advance_count_cleared s.tick
    have hwritten := hs.writer_ended he hx hreq hin
    obtain ⟨-, hposting, hsound, e⟩ | ⟨-, -, e⟩ := State.eqWritten_cases hset hd
    · rw [e]
      refine State.Owned.checkCommandFetch (hwritten.of_kept ⟨rfl, rfl, fun q => by cases q <;> rfl,
        fun q => .inl (by cases q <;> rfl), id, fun _ hfits => ?_⟩) hsound
      exact Iff.trans hfits ⟨fun g => ⟨fun e => (nomatch e), g.2⟩,
        fun g => ⟨fun e => (nomatch hposting.symm.trans e), g.2⟩⟩
    · rw [e]
      exact hwritten
  | eventFailed _ _ =>
    have hu := hs.writer_ended he hx (v := { s.evt with inFlight := none, request := .none }) rfl rfl
    exact hu.counted.enterFaulted hu.writer _
  | eventWrittenFaulted _ _ => exact hs.writer_ended he hx rfl rfl
  | eventFailedFaulted _ _ =>
    have hu := hs.writer_ended he hx (v := { s.evt with inFlight := none, request := .none }) rfl rfl
    exact hu.of_kept (.of_same rfl rfl rfl rfl rfl rfl rfl rfl)
  | burstAnswered i hd =>
    have hout : (s.slot i).outstanding ≠ 0 := (hs.waits_pos he).ne'
    exact (hs.slot_ended he hx ((hslots i).onResponse_outstanding hout _ _ _) (.inl hd)).checkStart hc.executing
  | burstAnsweredFaulted i _ => exact hs.slot_ended he hx rfl (.inr rfl)
  | burstAnsweredLeaving i _ => exact hs.slot_ended he hx rfl (.inr rfl)
  | burstDropped i hd =>
    obtain hd | hd := hd
    · exact absurd he (MemoryPort.not_active_of_count (hs.disabled hd (.slot i)) tag size e)
    · exact absurd he (MemoryPort.not_active_of_count (hs.starting hd (.slot i) (fun e => (nomatch e))) tag size e)

/-! ### Every event -/

theorem State.Owned.enterStarting {s : State} (h : s.Owned) (hd : s.ctl.device = .disabled) : s.enterStarting.Owned := by
  have hcount := h.disabled hd
  refine ⟨fun q => ?_, fun e => (nomatch e), fun _ q _ => hcount q, fun e => absurd rfl e, fun _ q hq => ?_, h.writer,
    fun e => (nomatch e)⟩
  · refine (hcount q).trans ?_
    cases q with
    | control => rfl
    | command => exact (hcount .command).symm.trans (h.counted .command)
    | fetcher => exact (hcount .fetcher).symm.trans (h.counted .fetcher)
    | writer => exact (hcount .writer).symm.trans (h.counted .writer)
    | slot i => exact (hcount (.slot i)).symm.trans (h.counted (.slot i))
  · have hnone := h.others (by simp [hd]) q hq
    cases q with
    | control => exact absurd rfl hq
    | command | fetcher | writer | slot i => exact hnone

theorem State.owned_powerOn (s : State) (level : Bool) : (s.powerOn level).Owned :=
  .of_disabled (MemoryPort.someActive_eq_false.2 fun tag => congrArg PortEntry.isActive (s.entry_powerOn level tag)) rfl rfl
    rfl rfl rfl rfl rfl

theorem State.Owned.captureDoneChosen {s : State} (h : s.Owned) (hc : s.CommandSound) (hd : s.ctl.device = .enabled)
    (hslots : ∀ i, (s.slot i).Sound) {i : SlotId} (hposting : (s.slot i).state = .posting) :
    (s.captureDoneChosen i).Owned := by
  have hout : (s.slot i).outstanding = 0 := by
    obtain ⟨-, -, -, -, -, -, hnone⟩ := hslots i
    exact hnone hposting
  have freed (x : Option CancelProgress) :
      (s.withCap { s.cap with slots := tset s.cap.slots i .freeSlot, cancelling := x }).Owned := by
    refine h.withCap hd fun j => ?_
    dsimp only
    rw [tget_tset]
    split
    next hj => rw [hj, hout]; rfl
    next => rfl
  obtain ⟨p, -, -, -, e⟩ | ⟨p, -, -, -, e⟩ | ⟨-, e⟩ := s.captureDoneChosen_cases i <;> rw [e]
  · exact (freed none).complete hc.executing _
  · exact freed _
  · exact freed s.cap.cancelling

/-- The choice of an item: the Event Writer, with no event in flight until then, asks for its write (R112, R115). -/
theorem State.Owned.choose {s : State} (h : s.Owned) (hc : s.CommandSound) (hslots : ∀ i, (s.slot i).Sound)
    (hmay : s.mayChoose = true) {x : EventContent} (hx : s.Offered x) : (s.choose x).Owned := by
  obtain ⟨hd, hno, -⟩ := State.mayChoose_iff.1 hmay
  have hitem : (s.itemChosen x).Owned ∧ (s.itemChosen x).evt = s.evt ∧ (s.itemChosen x).ctl = s.ctl := by
    cases hx with
    | captureDone d hoffer =>
      obtain ⟨hposting, -⟩ := Slot.captureDone_eq_some.1 (CaptureUnit.offer_eq_some hoffer)
      refine ⟨h.captureDoneChosen hc hd hslots hposting, ?_⟩
      rw [State.itemChosen, State.captureDoneChosen_frame]
      exact ⟨rfl, rfl⟩
    | acqHalt r _ _ =>
      refine ⟨(h.withAcq _).checkStart hc.executing, ?_⟩
      rw [State.itemChosen, State.checkStart_frame]
      exact ⟨rfl, rfl⟩
    | cmdDone d _ _ _ =>
      exact ⟨h.of_kept ⟨rfl, rfl, fun q => by cases q <;> rfl, fun q => .inl (by cases q <;> rfl), id, fun _ => id⟩, rfl, rfl⟩
    | bufferReject r rest _ _ _ _ =>
      refine ⟨State.Owned.checkBufferFetch (h.of_kept ⟨rfl, rfl, fun q => by cases q <;> rfl,
        fun q => .inl (by cases q <;> rfl), id, fun _ => id⟩), ?_⟩
      rw [State.itemChosen, State.checkBufferFetch_eq]
      exact ⟨rfl, rfl⟩
    | watchReport w rest _ _ _ _ _ _ => exact ⟨h.withEng _, rfl, rfl⟩
  obtain ⟨hitem, hevt, hctl⟩ := hitem
  have hreq : (s.itemChosen x).evt.request = .none := hevt ▸ h.writer.1 hno
  refine hitem.of_kept ⟨rfl, rfl, fun q => ?_, fun q => ?_, fun _ => ⟨fun e => (nomatch e), fun e => (nomatch e)⟩,
    fun _ => id⟩
  · cases q with
    | writer => simp [State.waits, State.choose, hreq]
    | _ => rfl
  · cases q with
    | writer => exact .inr ⟨hctl ▸ hd, fun e => (nomatch e)⟩
    | _ => exact .inl rfl

/-- R149, R151, R161: every event keeps every ACTIVE entry with its waiting owner. -/
theorem State.Event.owned {c : Instr} {s t : State} (h : s.Event c t) (hs : s.Owned) (hc : s.CommandSound)
    (hslots : ∀ i, (s.slot i).Sound) : t.Owned := by
  have same {u : State} (hu : s.OwnersKept u) : u.Owned := hs.of_kept hu
  have engine (e : WatchEngine) : (s.withEng e).CommandSound :=
    hc.of_kept ⟨rfl, rfl, rfl, rfl, rfl, fun e => ⟨e, .inl rfl⟩, .rfl, rfl, fun _ => rfl⟩
  have engined (e : WatchEngine) (st : CmdStatus) : ((s.withEng e).complete st).Owned :=
    (hs.withEng e).complete hc.executing st
  cases h with
  | stays => exact hs
  | arrived word hacc =>
    have hd := (State.acceptsEdge_iff.1 hacc).1
    have hcap : (s.withCap (s.cap.onArrival (s.acq.accept word s.tick) s.acq.overwritten)).Owned :=
      hs.withCap hd fun i => (congrArg Slot.outstanding (tget_tmap _ _ i)).trans (Slot.onArrival_outstanding _ _ _)
    exact hcap.of_kept (.of_same rfl rfl rfl rfl rfl rfl rfl rfl)
  | evaluated p hd _ _ => exact hs.evaluateSample p hd hslots hc
  | refused _ k cur st _ _ _ _ => exact hs.complete hc.executing st
  | loaded cur w cfg _ _ => exact engined _ _
  | armed cur w _ _ => exact engined _ _
  | disarmed cur w _ _ => exact engined _ _
  | freed cur w _ _ _ => exact engined _ _
  | snapshotTaken cur w hdisp hsnap =>
    obtain ⟨-, hdisp, -⟩ := State.dispatchedWatch_eq_some.1 hdisp
    obtain ⟨hd, hexec, -⟩ := State.dispatched_eq_some.1 hdisp
    have hlink : s.cmd.link = .none := (hs.command hd).2 ⟨fun e => (nomatch hexec.symm.trans e), hsnap⟩
    refine same ⟨rfl, rfl, fun q => ?_, fun q => ?_, id, fun _ _ => ⟨fun e => (nomatch e), fun e => (nomatch e.2)⟩⟩
    · cases q with
      | command => simp [State.waits, hlink]
      | _ => rfl
    · cases q with
      | command => exact .inr ⟨hd, fun e => (nomatch e)⟩
      | _ => exact .inl rfl
  | startHeld _ cur hdisp hidle => exact (hs.withAcq _).checkStart hc.executing
  | startTaken hready =>
    rw [← State.checkStart_of_ready hready]
    exact hs.checkStart hc.executing
  | stopped cur hdisp _ =>
    obtain ⟨hd, -⟩ := State.dispatched_eq_some.1 hdisp
    have ended (a : Acquisition) (x : CaptureUnit) (hx : ∀ i, (tget x.slots i).outstanding = (s.slot i).outstanding) :
        (((s.withAcq a).withCap x).complete .ok).Owned :=
      State.Owned.complete ((hs.withAcq a).withCap hd hx) hc.executing .ok
    refine ended _ _ fun i => ?_
    cases s.acq.newest with
    | none => rfl
    | some n => exact (congrArg Slot.outstanding (tget_tmap _ _ i)).trans (Slot.onEndOfRun_outstanding _ _ _)
  | cancelTaken cur named hdisp _ _ _ =>
    obtain ⟨hd, -⟩ := State.dispatched_eq_some.1 hdisp
    refine same (.of_slots hd fun i => ?_)
    dsimp only
    rw [tget_tmap, Slot.onCancel_outstanding]
    rfl
  | granted q tag hd hq htag => exact hs.issueGrant hc hd (State.nextRequester_eligible hq).1 htag
  | lateTaken _ tag size e _ he =>
    have hcount (q : Requester) : (s.setEntry tag .free).port.activeCount q = s.port.activeCount q := by
      have h := MemoryPort.activeCount_tset (m := s.port) (m' := (s.setEntry tag .free).port) (tag := tag) (x := .free) q rfl
      rwa [show tget s.port.entries tag = .stale size e from he] at h
    exact hs.of_fewer rfl (fun q => (hcount q).trans (hs.counted q)) (fun q => (hcount q).le)
      (fun q => .inl (by cases q <;> rfl)) hs.writer hs.command
  | entryEnded _ q tag size e x ans data u he hends hu => exact (hu.owned he hends hs hslots hc).endPassage
  | chosen x hmay hoffer => exact hs.choose hc hslots hmay (State.offer_eq_some.1 hoffer)
  | rangeFault _ code _ _ => exact hs.counted.enterFaulted hs.writer code
  | cqTailRaised v _ _ =>
    have hsound : (s.withCmd { s.cmd with tail := v.toNat }).CommandSound :=
      hc.of_kept ⟨rfl, rfl, rfl, rfl, rfl, fun e => ⟨e, .inl rfl⟩, .rfl, rfl, fun _ => rfl⟩
    exact State.Owned.checkCommandFetch (same ⟨rfl, rfl, fun q => by cases q <;> rfl,
      fun q => .inl (by cases q <;> rfl), id, fun _ => id⟩) hsound
  | bqTailRaised v _ _ =>
    exact State.Owned.checkBufferFetch (same (u := s.withFetch { s.fetch with tail := v.toNat })
      ⟨rfl, rfl, fun q => by cases q <;> rfl, fun q => .inl (by cases q <;> rfl), id, fun _ => id⟩)
  | enabledWritten _ v _ _ _ hd => exact hs.enterStarting hd
  | resetWritten _ v _ _ _ => exact (hs.left (.inr rfl)).endPassage
  | disabledWritten _ v _ _ _ _ => exact (hs.left (.inl rfl)).endPassage
  | pinMoved _ level _ => exact s.owned_powerOn level
  | ticked _ =>
    have tick {u : State} (hu : u.Owned) (x : Tick) : (u.withTick x).Owned :=
      hu.of_kept (.of_same rfl rfl rfl rfl rfl rfl rfl rfl)
    have hslots_with (e : WatchEngine) (i : SlotId) : ((s.withEng e).slot i).Sound := hslots i
    refine tick ?_ _
    obtain ⟨p, -, hd, -, e⟩ | ⟨-, e⟩ := s.endDueEvaluation_cases
    · rw [e]
      split
      · exact (hs.withEng _).evaluateSample p hd (hslots_with _) (engine _)
      · exact hs.evaluateSample p hd hslots hc
    · rwa [e]
  | noticeTaken _ _ _ | expiryRaised w _ _ _ | windowEnded w _ _ _ _ | evaluationBegun p _ _ _ => exact hs.withEng _
  | _ => exact same (.of_same rfl rfl rfl rfl rfl rfl rfl rfl)

/-- Settles O46: an event keeps the owners of the ACTIVE entries, and the one command in work. -/
theorem requestsStayOwned : Obligations.RequestsStayOwned := by
  intro c s t hcap howned hcmd h
  obtain ⟨hslots, -⟩ := hcap
  have hevent := State.event_of_exec h
  exact ⟨(State.requestsOwned_iff t).2 (hevent.owned ((State.requestsOwned_iff s).1 howned) hcmd hslots),
    hevent.commandSound hcmd howned⟩

end Sys2Proof.Machine
end

/-! PROOFS. The Buffer Cache, the Rejection List and the batch (chapter 5): the parts of CaptureUnitStaysSound (O30) that
speak of them, by the steps of the Buffer Fetcher. -/

section
namespace Sys2Proof.Machine

/-! ### The Buffer Fetcher's own view -/

/-- The Buffer Cache, the Rejection List, the fetch state and the batch. -/
structure Supply where
  cache : List Descriptor
  rejections : List Rejection
  fetch : FetchState
  batch : Option Batch

def State.supply (s : State) : Supply where
  cache := s.cap.cache
  rejections := s.fetch.rejections
  fetch := s.fetch.fetch
  batch := s.fetch.batch

/-- What chapter 5 says of the Buffer Fetcher (R100, R101, R102). -/
structure Supply.Sound (x : Supply) : Prop where
  cache : x.cache.length ≤ 4
  rejections : x.rejections.length ≤ 4
  reading : x.fetch = .reading ↔ x.batch ≠ none
  batch : ∀ b, x.batch = some b → x.cache.length + b.length ≤ 4 ∧ x.rejections = []
  requested : x.fetch = .requested → x.rejections = []

theorem State.supplySound_iff (s : State) : s.SupplySound ↔ s.supply.Sound :=
  ⟨fun ⟨a, b, c, d, e⟩ => ⟨a, b, c, d, e⟩, fun ⟨a, b, c, d, e⟩ => ⟨a, b, c, d, e⟩⟩

/-- One step of the Buffer Fetcher or of its lists. An event is a sequence of these. -/
inductive Supply.Step (x : Supply) : Supply → Prop
  | withdrawn : x.Step { x with fetch := if x.fetch = .reading then .reading else .idle }
  | cleared : x.Step { cache := [], rejections := [], fetch := .idle, batch := none }
  | idled : x.Step { x with fetch := .idle, batch := none }
  | requested : x.fetch = .idle → x.rejections = [] → x.Step { x with fetch := .requested }
  | used (n : Nat) : x.Step { x with cache := x.cache.drop n }
  | chosen : x.Step { x with rejections := x.rejections.drop 1 }
  | granted (b : Batch) : x.fetch = .requested → b.length ≤ 4 - x.cache.length →
      x.Step { x with fetch := .reading, batch := some b }
  | read (b : Batch) (data : ReadData) : x.batch = some b →
      x.Step
        { cache := (takeDescriptors data b.first b.length 0 (x.cache, x.rejections)).1
          rejections := (takeDescriptors data b.first b.length 0 (x.cache, x.rejections)).2
          fetch := .idle
          batch := none }

abbrev Supply.Steps : Supply → Supply → Prop := Relation.ReflTransGen Supply.Step

theorem Supply.Sound.step {x y : Supply} (h : x.Sound) (hstep : x.Step y) : y.Sound := by
  obtain ⟨hcache, hrej, hreading, hbatch, hreq⟩ := h
  cases hstep with
  | withdrawn =>
    by_cases hr : x.fetch = .reading
    · exact ⟨hcache, hrej, by simpa [hr] using hreading, hbatch, by simp [hr]⟩
    · exact ⟨hcache, hrej, by simpa [hr] using hreading, hbatch, by simp [hr]⟩
  | cleared => exact ⟨by simp, by simp, by simp, by simp, by simp⟩
  | idled => exact ⟨hcache, hrej, by simp, by simp, by simp⟩
  | requested hidle hnone =>
    have hno : x.batch = none := by
      by_contra e
      cases hidle.symm.trans (hreading.2 e)
    exact ⟨hcache, hrej, by simp [hno], hbatch, fun _ => hnone⟩
  | used n =>
    refine ⟨?_, hrej, hreading, fun b hb => ⟨?_, (hbatch b hb).2⟩, hreq⟩
    · simp only [List.length_drop]
      omega
    · have := (hbatch b hb).1
      simp only [List.length_drop]
      omega
  | chosen =>
    refine ⟨hcache, ?_, hreading, fun b hb => ?_, fun e => ?_⟩
    · simp only [List.length_drop]
      omega
    · obtain ⟨hroom, hnone⟩ := hbatch b hb
      exact ⟨hroom, by simp [hnone]⟩
    · simp [hreq e]
  | granted b hrequested hroom =>
    refine ⟨hcache, hrej, by simp, fun b' e => ?_, fun e => (nomatch e)⟩
    cases e
    refine ⟨?_, hreq hrequested⟩
    dsimp only
    omega
  | read b data hb =>
    obtain ⟨hroom, hnone⟩ := hbatch b hb
    have hsum := takeDescriptors_lengths data b.first b.length 0 (x.cache, x.rejections)
    rw [hnone] at hsum
    dsimp only [List.length_nil] at hsum
    refine ⟨?_, ?_, by simp, by simp, by simp⟩
    · dsimp only
      rw [hnone]
      omega
    · dsimp only
      rw [hnone]
      omega

theorem acceptedOf_legal {batch : List (Nat × Descriptor)} {d : Descriptor} (h : d ∈ acceptedOf batch) : d.Legal := by
  rw [acceptedOf, List.mem_map] at h
  obtain ⟨x, hx, rfl⟩ := h
  have hnone : x.2.reject = none := by
    have := (List.mem_filter.1 hx).2
    simpa using this
  obtain ⟨-, e⟩ | ⟨-, e⟩ | ⟨-, -, -, e⟩ | ⟨hc, hc', ha, -⟩ := x.2.reject_cases
  · cases hnone.symm.trans e
  · cases hnone.symm.trans e
  · cases hnone.symm.trans e
  · exact ⟨hc, hc', (aligned64_iff _).2 ha⟩

/-- Only descriptors that pass the checks of R103 join the Buffer Cache. -/
theorem Supply.Step.legal {x y : Supply} (hstep : x.Step y) (h : ∀ d ∈ x.cache, d.Legal) : ∀ d ∈ y.cache, d.Legal := by
  cases hstep with
  | cleared => exact fun d hd => absurd hd List.not_mem_nil
  | used n => exact fun d hd => h d (List.mem_of_mem_drop hd)
  | read b data _ =>
    intro d hd
    dsimp only at hd
    rw [takeDescriptors_eq] at hd
    obtain hd | hd := List.mem_append.1 hd
    · exact h d hd
    · exact acceptedOf_legal hd
  | withdrawn | idled | requested _ _ | chosen | granted b _ _ => exact h

theorem Supply.Steps.sound {x y : Supply} (h : x.Steps y) (hs : x.Sound) : y.Sound := by
  induction h with
  | refl => exact hs
  | tail _ hstep ih => exact ih.step hstep

theorem Supply.Steps.legal {x y : Supply} (h : x.Steps y) (hs : ∀ d ∈ x.cache, d.Legal) : ∀ d ∈ y.cache, d.Legal := by
  induction h with
  | refl => exact hs
  | tail _ hstep ih => exact hstep.legal ih

/-! ### Operations as steps -/

theorem State.checkStart_supply (s : State) : s.checkStart.supply = s.supply := by
  rw [s.checkStart_frame]
  rfl

theorem State.supplySteps_checkBufferFetch (s : State) : s.supply.Steps s.checkBufferFetch.supply := by
  obtain ⟨⟨-, hidle, -, -, hnone⟩, e⟩ | ⟨-, e⟩ := s.checkBufferFetch_cases <;> rw [e]
  exact .single (.requested hidle hnone)

/-- The requests of an evaluation take the cache's head, and may let the Buffer Fetcher ask (R70, R100). -/
theorem State.supplySteps_evaluateSample {s : State} (p : PresentedSample) (hd : s.ctl.device = .enabled) :
    s.supply.Steps (s.evaluateSample p).supply := by
  rw [s.evaluateSample_eq, State.closeSample_eq, State.checkStart_supply]
  have hcache : (s.evaluated p).cap.cache = s.cap.cache.drop (s.served (s.requesters p)).length := by
    rw [s.evaluated_cap p, (State.requested_served p hd).cap_of_withEng]
  have hfetch := (s.evaluated_fetch p).trans (State.requested_served p hd).fetch_of_withEng
  have husage : s.supply.Step { s.supply with cache := (s.evaluated p).cap.cache } := hcache ▸ .used _
  show s.supply.Steps (s.evaluated p).supply
  generalize s.evaluated p = t at *
  split at hfetch
  next hdue =>
    refine .tail (.single husage) ?_
    have e : t.supply = { s.supply with cache := t.cap.cache, fetch := .requested } := by
      simp only [State.supply, hfetch]
    rw [e]
    exact .requested (x := { s.supply with cache := t.cap.cache }) hdue.2.1 hdue.2.2.2.2
  next =>
    have e : t.supply = { s.supply with cache := t.cap.cache } := by
      simp only [State.supply, hfetch]
    rw [e]
    exact .single husage

theorem State.supplySteps_endPassage {s t : State} (h : s.supply.Steps t.supply) : s.supply.Steps t.endPassage.supply := by
  obtain ⟨-, -, e⟩ | ⟨-, -, e⟩ | ⟨-, e⟩ := t.endPassage_cases <;> rw [e]
  · exact h.tail .cleared
  · exact h.tail .cleared
  · exact h

theorem State.supplySteps_enterFaulted {s u : State} (h : u.supply = s.supply) (code : FaultCode) :
    s.supply.Steps (u.enterFaulted code).supply := by
  rw [u.enterFaulted_eq, ← h]
  exact .single .withdrawn

theorem State.supplySteps_left (s : State) {d : DeviceState} (hd : d ≠ .enabled) : s.supply.Steps (s.left d).supply := by
  rw [s.left_eq hd]
  exact .single .withdrawn

theorem State.supplySteps_itemChosen {s : State} {x : EventContent} (h : s.Offered x) :
    s.supply.Steps (s.itemChosen x).supply := by
  cases h with
  | captureDone d _ =>
    rw [State.itemChosen, State.captureDoneChosen_frame]
    exact .refl
  | acqHalt r _ _ =>
    rw [State.itemChosen, State.checkStart_supply]
    exact .refl
  | bufferReject r rest _ _ _ _ =>
    exact .head .chosen
      (State.supplySteps_checkBufferFetch (s.withFetch { s.fetch with rejections := s.fetch.rejections.drop 1 }))
  | cmdDone d _ _ _ | watchReport w rest _ _ _ _ _ _ => exact .refl

theorem State.Delivered.supplySteps {s t : State} {tag : Tag} {ans : Answer} {data : ReadData} {q : Requester}
    (h : s.Delivered tag ans data q t) : s.supply.Steps t.supply := by
  cases h with
  | setupFailed code _ _ => exact State.supplySteps_enterFaulted (by rfl) code
  | recordFailed _ _ _ => exact State.supplySteps_enterFaulted (by rfl) _
  | eventFailed _ _ => exact State.supplySteps_enterFaulted (by rfl) _
  | batchFailed b _ _ _ =>
    exact .head .idled
      (State.supplySteps_enterFaulted (s := s.withFetch { s.fetch with fetch := .idle, batch := none }) rfl _)
  | setupTaken _ _ _ => exact .single .idled
  | batchAbsorbed _ => exact .single .idled
  | batchTaken b _ hb _ =>
    refine .head (.read b data hb) ?_
    exact State.supplySteps_checkBufferFetch ((s.withCap { s.cap with
      cache := (takeDescriptors data b.first b.length 0 (s.cap.cache, s.fetch.rejections)).1 }).withFetch { s.fetch with
        rejections := (takeDescriptors data b.first b.length 0 (s.cap.cache, s.fetch.rejections)).2
        head := (s.fetch.head + b.length) % s.fetch.size, fetch := .idle, batch := none })
  | eventWritten _ _ =>
    rw [State.eqWritten_ok_frame]
    exact .refl
  | burstAnswered i _ =>
    rw [State.checkStart_supply]
    exact .refl
  | _ => exact .refl

/-- R100 to R107: what an event does to the Buffer Cache and the Buffer Fetcher. -/
theorem State.Event.supplySteps {c : Instr} {s t : State} (h : s.Event c t) : s.supply.Steps t.supply := by
  cases h with
  | evaluated p hd _ _ => exact State.supplySteps_evaluateSample p hd
  | startHeld _ cur _ _ =>
    rw [State.checkStart_supply]
    exact .refl
  | stopped cur _ _ =>
    have ended (a : Acquisition) (n : Option SampleNo) :
        s.supply.Steps (((s.withAcq a).withCap (s.cap.onEndOfRun a n)).complete .ok).supply := by
      cases n <;> exact .refl
    exact ended _ _
  | granted q tag _ hq _ =>
    cases q with
    | slot i =>
      rw [State.issueGrant_slot, State.checkStart_supply]
      exact .refl
    | fetcher =>
      have hrequested : s.fetch.fetch = .requested := by
        simpa [State.standing] using (State.nextRequester_eligible hq).1
      refine .single (.granted _ hrequested ?_)
      show s.batchLength ≤ 4 - s.cap.cache.length
      simp only [State.batchLength, Config.cacheDepth]
      omega
    | control | command | writer => exact .refl
  | entryEnded _ q tag size e x ans data u _ _ hu =>
    exact State.supplySteps_endPassage (s := s) hu.supplySteps
  | chosen x _ hoffer =>
    exact State.supplySteps_itemChosen (State.offer_eq_some.1 hoffer)
  | rangeFault _ code _ _ => exact State.supplySteps_enterFaulted rfl code
  | cqTailRaised v _ _ =>
    rw [State.checkCommandFetch_frame]
    exact .refl
  | bqTailRaised v _ _ =>
    exact State.supplySteps_checkBufferFetch (s.withFetch { s.fetch with tail := v.toNat })
  | resetWritten _ v _ _ _ => exact State.supplySteps_endPassage (s.supplySteps_left (by decide))
  | disabledWritten _ v _ _ _ _ => exact State.supplySteps_endPassage (s.supplySteps_left (by decide))
  | pinMoved _ level _ => exact .single .cleared
  | ticked _ =>
    have tick {u : State} (hu : s.supply.Steps u.supply) (x : Tick) : s.supply.Steps (u.withTick x).supply := hu
    refine tick ?_ _
    obtain ⟨p, -, hd, -, e⟩ | ⟨-, e⟩ := s.endDueEvaluation_cases
    · rw [e]
      have with_eng (u : WatchEngine) : s.supply.Steps ((s.withEng u).evaluateSample p).supply :=
        State.supplySteps_evaluateSample (s := s.withEng u) p hd
      split
      · exact with_eng _
      · exact State.supplySteps_evaluateSample p hd
    · rw [e]
  | noticeTaken _ _ _ =>
    have with_eng (u : WatchEngine) : s.supply.Steps (s.withEng u).supply := .refl
    exact with_eng _
  | _ => exact .refl

end Sys2Proof.Machine
end

/-! PROOFS. Every Capture Slot stays sound (chapter 4): the part of CaptureUnitStaysSound (O30) about the slots, one
operation after another. -/

section
namespace Sys2Proof.Machine

/-! ### Sound slots -/

/-- What chapter 4 says of a non-FREE slot's window and entries (R68, R74, R79, R80). -/
structure Slot.WindowSound (sl : Slot) : Prop where
  buffer : 1 ≤ sl.capacity ∧ sl.capacity ≤ Config.maxCapacity ∧ aligned64 sl.buffer = true
  fits : sl.pos sl.windowEnd < sl.capacity
  short : sl.pos sl.windowEnd < 66560
  granted : sl.leading + burstTotal sl.bursts = sl.pos sl.nextToCopy
  capacity : sl.leading + burstTotal sl.bursts ≤ sl.capacity

theorem Slot.Sound.window {sl : Slot} (h : sl.Sound) (hne : sl.state ≠ .free) : sl.WindowSound := by
  obtain ⟨-, hbuf, -⟩ := h
  obtain ⟨hdesc, hfits, hshort, hgranted, hcap⟩ := hbuf hne
  exact ⟨hdesc, hfits, hshort, hgranted, hcap⟩

theorem Slot.Sound.of_filling {sl : Slot} (hstate : sl.state = .filling) (hwin : sl.WindowSound) (hlen : sl.bursts.length ≤ 8)
    (hask : sl.requestStanding = true → sl.bursts.length < 8)
    (hnext : sl.pos sl.nextToCopy ≤ sl.pos sl.windowEnd) (hstatus : sl.flushing = false → sl.status = none)
    (hflush : sl.flushing = true → sl.status = some .truncated) : sl.Sound := by
  refine ⟨?_, fun _ => ⟨hwin.buffer, hwin.fits, hwin.short, hwin.granted, hwin.capacity⟩, hlen,
    fun e => ⟨hstate, hask e⟩, fun _ => ⟨hnext, hstatus, hflush⟩, ?_, ?_⟩ <;> simp [hstate]

/-- CLOSING, or POSTING with no write outstanding. -/
theorem Slot.Sound.of_ended {sl : Slot} (hstate : sl.state = .closing ∨ (sl.state = .posting ∧ sl.outstanding = 0))
    (hwin : sl.WindowSound) (hlen : sl.bursts.length ≤ 8) (hask : sl.requestStanding = false)
    (hstatus : sl.status ≠ none) : sl.Sound := by
  refine ⟨?_, fun _ => ⟨hwin.buffer, hwin.fits, hwin.short, hwin.granted, hwin.capacity⟩, hlen,
    fun e => absurd (hask.symm.trans e) (by decide), ?_, fun _ => hstatus, ?_⟩ <;>
    obtain h | ⟨h, ho⟩ := hstate <;> simp [h]
  exact ho

/-- A slot ends: in POSTING where no write is outstanding, in CLOSING otherwise (R90). -/
theorem Slot.Sound.of_close {sl : Slot} (hwin : sl.WindowSound) (hlen : sl.bursts.length ≤ 8) {x : Slot}
    (hx : x = { sl with
      state := if sl.outstanding = 0 then .posting else .closing, requestStanding := false, status := x.status })
    (hstatus : x.status ≠ none) : x.Sound := by
  rw [hx]
  refine .of_ended ?_ ⟨hwin.buffer, hwin.fits, hwin.short, hwin.granted, hwin.capacity⟩ hlen rfl hstatus
  by_cases ho : sl.outstanding = 0
  · exact .inr ⟨by simp [ho], ho⟩
  · exact .inl (by simp [ho])

theorem Slot.Sound.bursts_le {sl : Slot} (h : sl.Sound) : sl.bursts.length ≤ 8 := by
  obtain ⟨-, -, hlen, -⟩ := h
  exact hlen

/-! ### Requests, ends and notices -/

theorem Slot.Sound.checkRequest {sl : Slot} (h : sl.Sound) (a : Acquisition) : (sl.checkRequest a).Sound := by
  obtain ⟨hstate, -, hlen, -, e⟩ | e := sl.checkRequest_cases a
  · rw [e]
    obtain ⟨hfree, hbuf, hlist, -, hfill, hend, hpost⟩ := h
    exact ⟨fun g => (by cases hstate.symm.trans g), hbuf, hlist, fun _ => ⟨hstate, hlen⟩, hfill, hend, hpost⟩
  · rwa [e]

theorem Slot.Sound.close {sl : Slot} (h : sl.Sound) (hf : sl.state = .filling) (c : CaptureStatus) :
    (sl.close c).Sound := by
  have e := sl.close_eq c
  exact .of_close (h.window (by simp [hf])) h.bursts_le (by rw [e]) (by rw [e]; simp)

theorem Slot.Sound.onArrival {sl : Slot} (h : sl.Sound) (a : Acquisition) (k : Option SampleNo) :
    (sl.onArrival a k).Sound := by
  unfold Slot.onArrival
  split
  next hf =>
    split
    · split
      · exact h.close hf _
      · exact h.checkRequest a
    · exact h.checkRequest a
  next => exact h

theorem Slot.Sound.checked {sl x : Slot} {newest : Option SampleNo} (h : sl.Sound) (hx : sl.Checked newest x) :
    x.Sound := by
  obtain ⟨e, hask⟩ := hx
  rw [e]
  obtain ⟨hfree, hbuf, hlist, hstand, hfill, hend, hpost⟩ := h
  refine ⟨fun g => ?_, hbuf, hlist, fun g => ?_, hfill, hend, hpost⟩
  · have hempty := hfree g
    have hno : x.requestStanding = false := by
      refine eq_false_of_ne_true fun r => ?_
      obtain hs | ⟨hs, -⟩ := hask.1 r
      · rw [hempty] at hs
        cases hs
      · cases hs.symm.trans g
    rw [hno, hempty]
    rfl
  · obtain hs | ⟨hs, -, hlen, -⟩ := hask.1 g
    · exact hstand hs
    · exact ⟨hs, hlen⟩

/-- The cut of an end-of-run notice leaves a shorter window (R84). -/
theorem Slot.Sound.cutAt {sl x : Slot} {newest : Option SampleNo} {n : SampleNo} (h : sl.Sound)
    (hx : sl.CutAt newest n x) : x.Sound := by
  unfold Slot.CutAt at hx
  dsimp only at hx
  split at hx
  next hcut =>
    obtain ⟨hf, hno, hlow⟩ := hcut
    have hwin := h.window (by simp [hf])
    have hlen := h.bursts_le
    obtain ⟨-, -, -, hstand, hfill, -, -⟩ := h
    obtain ⟨hnext, hstatus, -⟩ := hfill hf
    have hcutwin : ({ sl with windowEnd := n, status := some (sl.status.getD .truncated), flushing := true } :
        Slot).WindowSound := by
      refine ⟨hwin.buffer, ?_, ?_, hwin.granted, hwin.capacity⟩
      · exact lt_trans hlow hwin.fits
      · exact lt_trans hlow hwin.short
    split at hx
    next hle =>
      refine Slot.Sound.checked ?_ hx
      refine .of_filling hf hcutwin hlen (fun e => (hstand e).2) hle (fun e => (nomatch e)) fun _ => ?_
      rw [hstatus hno]
      rfl
    next => exact .of_close hcutwin hlen (by rw [hx]) (by rw [hx]; simp)
  next => exact h.checked hx

theorem Slot.Sound.onEndOfRun {sl : Slot} (h : sl.Sound) (a : Acquisition) (n : SampleNo) : (sl.onEndOfRun a n).Sound :=
  h.cutAt (sl.onEndOfRun_cutAt a n)

theorem Slot.Sound.onCancel {sl : Slot} (h : sl.Sound) (named : Bool) : (sl.onCancel named).Sound := by
  unfold Slot.onCancel
  split
  next hf => exact h.close hf.2 _
  next => exact h

theorem Slot.Sound.stopped {sl : Slot} (h : sl.Sound) : ({ sl with requestStanding := false } : Slot).Sound := by
  obtain ⟨hfree, hbuf, hlist, -, hfill, hend, hpost⟩ := h
  refine ⟨fun g => ?_, hbuf, hlist, fun e => (nomatch e), hfill, hend, hpost⟩
  rw [hfree g]
  rfl

/-! ### Bursts -/

theorem burstTotal_append (l : List BurstRecord) (b : BurstRecord) : burstTotal (l ++ [b]) = burstTotal l + b.count := by
  simp [burstTotal]

/-- The burst sent is accounted for, at most to the window end (R74, R79). -/
theorem Slot.Sound.sent_window {sl : Slot} (h : sl.Sound) (hf : sl.state = .filling) (tag : Tag) {n : Nat}
    {newest : Option SampleNo} (hn : n ≤ sl.runTo newest) : (sl.sent tag n).WindowSound := by
  obtain ⟨hpos, hle, -⟩ := Slot.sent_pos h hf hn tag
  have hwin := h.window (by simp [hf])
  have hgranted : (sl.sent tag n).leading + burstTotal (sl.sent tag n).bursts = sl.pos sl.nextToCopy + n := by
    show sl.leading + burstTotal (sl.bursts ++ [_]) = _
    rw [burstTotal_append, ← Nat.add_assoc, hwin.granted]
  refine ⟨hwin.buffer, hwin.fits, hwin.short, hgranted.trans hpos.symm, ?_⟩
  have hfits := hwin.fits
  show _ ≤ sl.capacity
  omega

theorem Slot.Sound.onGrant {sl : Slot} (h : sl.Sound) (hask : sl.requestStanding = true) (a : Acquisition) (tag : Tag) :
    (sl.onGrant a tag).Sound := by
  obtain ⟨hf, hroom⟩ : sl.state = .filling ∧ sl.bursts.length < 8 := by
    obtain ⟨-, -, -, hstand, -⟩ := h
    exact hstand hask
  have hwin := h.sent_window hf tag (n := min 16 (sl.runTo a.newest)) (newest := a.newest) (Nat.min_le_right _ _)
  have hlen : (sl.sent tag (min 16 (sl.runTo a.newest))).bursts.length ≤ 8 := by
    show (sl.bursts ++ [_]).length ≤ 8
    rw [List.length_append, List.length_singleton]
    omega
  obtain ⟨-, e⟩ | ⟨hle, e⟩ := Slot.onGrant_cases h hf tag (a := a) <;> rw [e]
  · exact .of_ended (.inl rfl) ⟨hwin.buffer, hwin.fits, hwin.short, hwin.granted, hwin.capacity⟩ hlen rfl (by simp)
  · obtain ⟨hpos, -, -⟩ := Slot.sent_pos h hf (Nat.min_le_right 16 (sl.runTo a.newest)) tag
    obtain ⟨-, -, -, -, hfill, -, -⟩ := h
    obtain ⟨-, hstatus, hflush⟩ := hfill hf
    have hsent : (sl.sent tag (min 16 (sl.runTo a.newest))).Sound :=
      .of_filling hf hwin hlen (fun e => (nomatch e)) (hpos.trans_le hle) hstatus hflush
    exact hsent.checkRequest a

/-! ### Answers -/

theorem markBurst_total (tag : Tag) (ans : Answer) (l : List BurstRecord) :
    burstTotal (markBurst tag ans l) = burstTotal l := by
  induction l with
  | nil => rfl
  | cons b rest ih =>
    rw [markBurst]
    split
    · rfl
    · simp only [burstTotal, List.map_cons, List.sum_cons] at ih ⊢
      rw [ih]

theorem leadingRun_total (l : List BurstRecord) : (leadingRun l).1 + burstTotal (leadingRun l).2 = burstTotal l := by
  induction l with
  | nil => rfl
  | cons b rest ih =>
    rw [leadingRun]
    split
    · simp only [burstTotal, List.map_cons, List.sum_cons] at ih ⊢
      omega
    · simp [burstTotal]

theorem leadingRun_length (l : List BurstRecord) : (leadingRun l).2.length ≤ l.length := by
  induction l with
  | nil => exact le_rfl
  | cons b rest ih =>
    rw [leadingRun]
    split
    · exact Nat.le_succ_of_le ih
    · exact le_rfl

/-- A response marked and counted keeps the entries granted (R80). -/
theorem Slot.answered_window {sl : Slot} (h : sl.WindowSound) (tag : Tag) (ans : Answer) :
    (sl.answered tag ans).WindowSound := by
  have htotal : (sl.answered tag ans).leading + burstTotal (sl.answered tag ans).bursts =
      sl.leading + burstTotal sl.bursts := by
    show sl.leading + (leadingRun (markBurst tag ans sl.bursts)).1 +
      burstTotal (leadingRun (markBurst tag ans sl.bursts)).2 = _
    rw [Nat.add_assoc, leadingRun_total, markBurst_total]
  exact ⟨h.buffer, h.fits, h.short, htotal.trans h.granted, htotal.le.trans h.capacity⟩

theorem Slot.answered_length (sl : Slot) (tag : Tag) (ans : Answer) :
    (sl.answered tag ans).bursts.length ≤ sl.bursts.length :=
  (leadingRun_length _).trans (markBurst_length tag ans sl.bursts).le

theorem Slot.Sound.onResponse {sl : Slot} (h : sl.Sound) (a : Acquisition) (tag : Tag) (ans : Answer) :
    (sl.onResponse a tag ans).Sound := by
  have hlen := (sl.answered_length tag ans).trans h.bursts_le
  cases hstate : sl.state with
  | free | posting =>
    simp only [Slot.onResponse, hstate]
    exact h
  | closing =>
    have hwin := Slot.answered_window (h.window (by simp [hstate])) tag ans
    have hno : sl.requestStanding = false := by
      obtain ⟨-, -, -, hstand, -⟩ := h
      refine eq_false_of_ne_true fun e => ?_
      cases hstate.symm.trans (hstand e).1
    have e := Slot.onResponse_closing hstate a tag ans
    refine .of_close hwin hlen ?_ ?_
    · rw [e, ← hno]
      rfl
    · rw [e]
      obtain ⟨-, -, -, -, -, hend, -⟩ := h
      cases ans with
      | ok => exact hend (.inl hstate)
      | error => exact Option.some_ne_none _
  | filling =>
    have hwin := Slot.answered_window (h.window (by simp [hstate])) tag ans
    cases ans with
    | error =>
      have e := Slot.onResponse_filling_error hstate a tag
      exact .of_close hwin hlen (by rw [e]; rfl) (by rw [e]; exact Option.some_ne_none _)
    | ok =>
      rw [Slot.onResponse_filling_ok hstate]
      have hshorter := sl.answered_length tag .ok
      obtain ⟨-, -, -, hstand, hfill, -, -⟩ := h
      obtain ⟨hnext, hstatus, hflush⟩ := hfill hstate
      have hanswered : (sl.answered tag .ok).Sound :=
        .of_filling hstate hwin hlen (fun e => lt_of_le_of_lt hshorter (hstand e).2) hnext hstatus hflush
      split
      · exact hanswered.checkRequest a
      · exact hanswered

/-- An answer in FAULTED marks a record; in STOPPING and RESETTING it lowers the outstanding writes only (R94, R95). -/
theorem Slot.Sound.onResponseFaulted {sl : Slot} (h : sl.Sound) (tag : Tag) (ans : Answer) :
    (sl.onResponseFaulted tag ans).Sound := by
  obtain ⟨hfree, hbuf, hlist, hstand, hfill, hend, hpost⟩ := h
  have hlen : (sl.onResponseFaulted tag ans).bursts.length = sl.bursts.length := markBurst_length tag ans sl.bursts
  have htotal : burstTotal (sl.onResponseFaulted tag ans).bursts = burstTotal sl.bursts := markBurst_total tag ans sl.bursts
  refine ⟨fun g => ?_, fun g => ?_, hlen.le.trans hlist, fun g => ?_, hfill, hend, fun g => ?_⟩
  · rw [hfree g]
    rfl
  · obtain ⟨hdesc, hfits, hshort, hgranted, hcap⟩ := hbuf g
    rw [htotal]
    exact ⟨hdesc, hfits, hshort, hgranted, hcap⟩
  · rw [hlen]
    exact hstand g
  · show sl.outstanding - 1 = 0
    rw [hpost g]

theorem Slot.Sound.onResponseLeaving {sl : Slot} (h : sl.Sound) : sl.onResponseLeaving.Sound := by
  obtain ⟨hfree, hbuf, hlist, hstand, hfill, hend, hpost⟩ := h
  refine ⟨fun g => ?_, hbuf, hlist, hstand, hfill, hend, fun g => ?_⟩
  · rw [hfree g]
    rfl
  · show sl.outstanding - 1 = 0
    rw [hpost g]

/-! ### Allocations -/

theorem Slot.sound_allocated (a : Acquisition) (mark : Option SampleNo) (w : WatchId) (k : SampleNo) {pre post : Nat}
    {d : Descriptor} (hpre : pre ≤ 1024) (hpost : post < 2 ^ 16) (hd : d.Legal) :
    (Slot.allocated a mark w k pre post d).Sound := by
  obtain ⟨⟨-, -, hbuffer, hcapacity, -, hleading, hbursts, -, hask⟩, hstate, hstart, hnext, -, -, hnone, hcut, huncut,
    hfits, hshort⟩ := captureWindow a mark w k pre post d hpre (by omega) hd
  have hpos : (Slot.allocated a mark w k pre post d).pos (Slot.allocated a mark w k pre post d).nextToCopy = 0 := by
    rw [Slot.pos, hnext, hstart, BitVec.sub_self]
    rfl
  have hwin : (Slot.allocated a mark w k pre post d).WindowSound := by
    refine ⟨?_, hfits.trans_eq hcapacity.symm, hshort, ?_, ?_⟩
    · rw [hbuffer, hcapacity]
      exact hd
    · rw [hpos, hleading, hbursts]
      rfl
    · rw [hleading, hbursts]
      exact Nat.zero_le _
  have hstatus : ((Slot.allocated a mark w k pre post d).flushing = false ∧
      (Slot.allocated a mark w k pre post d).status = none) ∨
      ((Slot.allocated a mark w k pre post d).flushing = true ∧
        (Slot.allocated a mark w k pre post d).status = some .truncated) := by
    cases mark with
    | none =>
      obtain ⟨-, hno, hst, -⟩ := hnone rfl
      exact .inl ⟨hno, hst⟩
    | some m =>
      obtain hm | hm := Nat.lt_or_ge _ _
      · obtain ⟨-, hyes, hst⟩ := hcut m rfl hm
        exact .inr ⟨hyes, hst⟩
      · obtain ⟨-, hno, hst⟩ := huncut m rfl hm
        exact .inl ⟨hno, hst⟩
  refine .of_filling hstate hwin (by rw [hbursts]; exact Nat.zero_le _) (fun e => (nomatch hask.symm.trans e))
    (by rw [hpos]; exact Nat.zero_le _) (fun e => ?_) fun e => ?_
  · exact hstatus.elim (fun g => g.2) fun g => by cases e.symm.trans g.1
  · exact hstatus.elim (fun g => by cases e.symm.trans g.1) fun g => g.2

/-! ### Every slot, at every event -/

/-- Every slot is sound. -/
def State.SlotsSound (s : State) : Prop := ∀ i, (s.slot i).Sound

theorem State.SlotsSound.of_slots {s t : State} (h : s.SlotsSound) (ht : t.cap.slots = s.cap.slots) : t.SlotsSound := by
  intro i
  rw [State.slot, ht]
  exact h i

theorem State.SlotsSound.setSlot {s : State} (h : s.SlotsSound) {i : SlotId} {x : Slot} (hx : x.Sound) :
    (s.setSlot i x).SlotsSound := by
  intro j
  rw [State.setSlot_slot]
  split
  · exact hx
  · exact h j

theorem State.checkStart_slots (s : State) : s.checkStart.cap.slots = s.cap.slots := by rw [s.checkStart_frame]

theorem State.SlotsSound.checkStart {s : State} (h : s.SlotsSound) : s.checkStart.SlotsSound :=
  h.of_slots s.checkStart_slots

/-- The requests of an evaluation allocate sound slots (R70). -/
theorem State.CapturesSound.requested {s : State} (h : s.CapturesSound) (p : PresentedSample)
    (hd : s.ctl.device = .enabled) : (s.requested p).SlotsSound := by
  obtain ⟨hslots, hcache, hconfig⟩ := h
  intro i
  obtain e | ⟨-, w, d, hmem, e⟩ := State.requested_slot_cases p hd i
  · rw [e]
    exact hslots i
  · rw [e]
    obtain ⟨-, -, hpre, hpost, -⟩ := hconfig w
    exact (Slot.sound_allocated _ _ _ _ hpre hpost (hcache d hmem)).checkRequest _

theorem State.CapturesSound.evaluated {s : State} (h : s.CapturesSound) (p : PresentedSample)
    (hd : s.ctl.device = .enabled) : (s.evaluated p).SlotsSound := by
  intro i
  have hslot := s.evaluated_slot p i
  have hreq := h.requested p hd i
  split at hslot
  · exact hreq.cutAt hslot
  · rw [hslot]
    exact hreq

theorem State.CapturesSound.evaluateSample {s : State} (h : s.CapturesSound) (p : PresentedSample)
    (hd : s.ctl.device = .enabled) : (s.evaluateSample p).SlotsSound := by
  rw [s.evaluateSample_eq, State.closeSample_eq]
  exact (h.evaluated p hd).checkStart

/-- The notice leaves every configuration (R48). -/
theorem State.CapturesSound.takeNotice {s : State} (h : s.CapturesSound) : (s.withEng s.eng.takeNotice).CapturesSound := by
  obtain ⟨hslots, hcache, hconfig⟩ := h
  have with_eng (e : WatchEngine) (he : ∀ w, (tget e.watches w).config.Legal) : (s.withEng e).CapturesSound :=
    ⟨hslots, hcache, he⟩
  refine with_eng _ fun w => ?_
  rw [WatchEngine.takeNotice_watch, Watch.onStartOfRun]
  split
  · exact hconfig w
  · exact hconfig w

theorem State.slotsSound_cleared {t : State} (h : t.cap = .cleared) : t.SlotsSound := by
  intro i
  rw [State.slot, h, show tget CaptureUnit.cleared.slots i = .freeSlot from tget_replicate _ i]
  exact Slot.sound_freeSlot

theorem State.SlotsSound.endPassage {s : State} (h : s.SlotsSound) : s.endPassage.SlotsSound := by
  obtain ⟨-, -, e⟩ | ⟨-, -, e⟩ | ⟨-, e⟩ := s.endPassage_cases <;> rw [e]
  · exact State.slotsSound_cleared rfl
  · exact State.slotsSound_cleared rfl
  · exact h

theorem State.SlotsSound.stopped {s t : State} (h : s.SlotsSound) (ht : t.cap = s.cap.stop) : t.SlotsSound := by
  intro i
  rw [State.slot, ht, State.stop_slot]
  exact (h i).stopped

theorem State.SlotsSound.enterFaulted {s : State} (h : s.SlotsSound) (code : FaultCode) :
    (s.enterFaulted code).SlotsSound :=
  h.stopped (by rw [s.enterFaulted_eq])

theorem State.SlotsSound.left {s : State} (h : s.SlotsSound) {d : DeviceState} (hd : d ≠ .enabled) :
    (s.left d).SlotsSound :=
  h.stopped (by rw [s.left_eq hd])

theorem State.Delivered.slotsSound {s t : State} {tag : Tag} {ans : Answer} {data : ReadData} {q : Requester}
    (h : s.Delivered tag ans data q t) (hs : s.SlotsSound) : t.SlotsSound := by
  cases h with
  | setupFailed code _ _ => exact State.SlotsSound.enterFaulted (hs.of_slots (by rfl)) code
  | recordFailed _ _ _ => exact State.SlotsSound.enterFaulted (hs.of_slots (by rfl)) _
  | batchFailed b _ _ _ => exact State.SlotsSound.enterFaulted (hs.of_slots (by rfl)) _
  | eventFailed _ _ => exact State.SlotsSound.enterFaulted (hs.of_slots (by rfl)) _
  | batchTaken b _ _ _ => exact hs.of_slots (by rw [State.bqRead_ok_frame])
  | eventWritten _ _ => exact hs.of_slots (by rw [State.eqWritten_ok_frame])
  | burstAnswered i _ => exact (hs.setSlot ((hs i).onResponse _ _ _)).checkStart
  | burstAnsweredFaulted i _ => exact hs.setSlot ((hs i).onResponseFaulted _ _)
  | burstAnsweredLeaving i _ => exact hs.setSlot (hs i).onResponseLeaving
  | _ => exact hs.of_slots rfl

theorem State.SlotsSound.itemChosen {s : State} (h : s.SlotsSound) (x : EventContent) : (s.itemChosen x).SlotsSound := by
  cases x with
  | captureDone d =>
    have freed := h.setSlot (i := d.slot) Slot.sound_freeSlot
    refine freed.of_slots ?_
    rw [State.itemChosen, State.captureDoneChosen_frame]
    rfl
  | acqHalt r => exact State.SlotsSound.checkStart (h.of_slots rfl)
  | bufferReject r => exact h.of_slots (by rw [State.itemChosen, State.checkBufferFetch_eq]; rfl)
  | cmdDone d | watchReport r => exact h.of_slots rfl

/-- R74, R78 to R85, R89, R90: every event keeps every slot sound. -/
theorem State.Event.slotsSound {c : Instr} {s t : State} (h : s.Event c t) (hs : s.CapturesSound) : t.SlotsSound := by
  have hslots : s.SlotsSound := hs.1
  cases h with
  | arrived word _ =>
    intro i
    have e : (s.arrive word).slot i = (s.slot i).onArrival (s.acq.accept word s.tick) s.acq.overwritten := tget_tmap _ _ i
    rw [e]
    exact (hslots i).onArrival _ _
  | evaluated p hd _ _ => exact hs.evaluateSample p hd
  | startHeld _ cur _ _ => exact State.SlotsSound.checkStart (hslots.of_slots rfl)
  | stopped cur _ _ =>
    have ended (a : Acquisition) (n : Option SampleNo) :
        State.SlotsSound (((s.withAcq a).withCap (s.cap.onEndOfRun a n)).complete .ok) := by
      cases n with
      | none => exact hslots.of_slots rfl
      | some k =>
        intro i
        have e : (((s.withAcq a).withCap (s.cap.onEndOfRun a (some k))).complete .ok).slot i =
            (s.slot i).onEndOfRun a k := tget_tmap _ _ i
        rw [e]
        exact (hslots i).onEndOfRun a k
    exact ended _ _
  | cancelTaken cur named _ _ _ _ =>
    intro i
    show (tget (tmap (fun i sl => sl.onCancel (decide (i ∈ s.cap.targets named))) s.cap.slots) i).Sound
    rw [tget_tmap]
    exact (hslots i).onCancel _
  | granted q tag _ hq _ =>
    cases q with
    | slot i =>
      rw [State.issueGrant_slot]
      refine State.SlotsSound.checkStart ?_
      exact (hslots.setSlot ((hslots i).onGrant (State.nextRequester_eligible hq).1 s.acq tag)).of_slots rfl
    | control | command | fetcher | writer => exact hslots.of_slots rfl
  | entryEnded _ q tag size e x ans data u _ _ hu => exact (hu.slotsSound (hslots.of_slots rfl)).endPassage
  | chosen x _ _ => exact (hslots.itemChosen x).of_slots rfl
  | rangeFault _ code _ _ => exact hslots.enterFaulted code
  | cqTailRaised v _ _ => exact hslots.of_slots (by rw [State.checkCommandFetch_frame]; rfl)
  | bqTailRaised v _ _ => exact hslots.of_slots (by rw [State.checkBufferFetch_eq]; rfl)
  | resetWritten _ v _ _ _ => exact (hslots.left (by decide)).endPassage
  | disabledWritten _ v _ _ _ _ => exact (hslots.left (by decide)).endPassage
  | pinMoved _ level _ => exact State.slotsSound_cleared rfl
  | ticked _ =>
    refine State.SlotsSound.of_slots (s := s.endDueEvaluation) ?_ rfl
    obtain ⟨p, -, hd, -, e⟩ | ⟨-, e⟩ := s.endDueEvaluation_cases
    · rw [e]
      split
      · exact hs.takeNotice.evaluateSample p hd
      · exact hs.evaluateSample p hd
    · rwa [e]
  | noticeTaken _ _ _ =>
    have with_eng (e : WatchEngine) : (s.withEng e).SlotsSound := hslots.of_slots rfl
    exact with_eng _
  | _ => exact hslots.of_slots rfl

/-- A LOAD writes a legal configuration, a FREE and a clearing that of a FREE context (R2, R3). -/
theorem configs_legal {c : Instr} {s t : State} (h : exec c s = .next t) (hs : ∀ w, (s.watch w).config.Legal) (w : WatchId) :
    (t.watch w).config.Legal := by
  by_cases hsame : (t.watch w).config = (s.watch w).config
  · rw [hsame]
    exact hs w
  · obtain ⟨e, -⟩ | ⟨cur, -, -, ⟨-, -, hcfg⟩ | ⟨-, -, hfree⟩⟩ := configurationChangedBy c s t w h hsame
    · rw [State.watch, e]
      exact (WatchEngine.sound_cleared w).1
    · exact CommandRecord.config_legal hcfg
    · rw [hfree]
      exact Watch.sound_freeContext.1

theorem capturesSound_of_exec {c : Instr} {s t : State} (h : exec c s = .next t) (hs : s.CapturesSound) :
    t.CapturesSound := by
  have hevent := State.event_of_exec h
  have hslots := hevent.slotsSound hs
  obtain ⟨-, hcache, hconfig⟩ := hs
  exact ⟨hslots, hevent.supplySteps.legal hcache, configs_legal h hconfig⟩

end Sys2Proof.Machine
end

/-! PROOFS. What a slot has still to copy stays in the ring, and every slot that has to ask does (R76, R82): the part of
CaptureUnitStaysSound (O30) about copies, and O30. -/

section
namespace Sys2Proof.Machine

/-! ### Positions -/

theorem Slot.pos_sub (sl : Slot) {k : SampleNo} {n : Nat} (h : n ≤ sl.pos k) :
    sl.pos (k - BitVec.ofNat 48 n) = sl.pos k - n := by
  have heq : k - BitVec.ofNat 48 n - sl.windowStart = k - sl.windowStart - BitVec.ofNat 48 n := by ring
  unfold Slot.pos at *
  have hlt := (k - sl.windowStart).isLt
  rw [heq, BitVec.toNat_sub, BitVec.toNat_ofNat]
  omega

/-- The newest sample stands one below the sample counter (R57). -/
theorem Slot.pos_newest {a : Acquisition} {n : SampleNo} (h : a.newest = some n) {sl : Slot}
    (hpos : 1 ≤ sl.pos a.sampleCounter) : sl.pos n = sl.pos a.sampleCounter - 1 := by
  unfold Acquisition.newest at h
  split at h
  · cases h
  · cases h
    exact sl.pos_sub (n := 1) hpos

/-! ### One slot and the ring -/

/-- What R75, R76, R82 and R84 say of one slot: the samples from next-to-copy up are in the ring, it flushes only while
acquisition is IDLE, and a standing request has an entry to send. -/
structure Slot.CopySound (a : Acquisition) (sl : Slot) : Prop where
  ring : sl.state = .filling → 1 ≤ sl.pos a.sampleCounter ∧ sl.pos sl.nextToCopy ≤ sl.pos a.sampleCounter ∧
    sl.pos a.sampleCounter ≤ sl.pos sl.nextToCopy + a.heldCount
  flush : sl.state = .filling → sl.flushing = true → a.state = .idle
  asks : sl.requestStanding = true → 1 ≤ sl.runTo a.newest

/-- The ring of a slot that is not FILLING does not matter. -/
theorem Slot.copySound_of_not_filling {sl : Slot} (hf : sl.state ≠ .filling) (hask : sl.requestStanding = false)
    (a : Acquisition) : sl.CopySound a :=
  ⟨fun e => absurd e hf, fun e => absurd e hf, fun e => (nomatch hask.symm.trans e)⟩

theorem Slot.Sound.not_standing {sl : Slot} (h : sl.Sound) (hf : sl.state ≠ .filling) : sl.requestStanding = false := by
  obtain ⟨-, -, -, hstand, -⟩ := h
  exact eq_false_of_ne_true fun e => hf (hstand e).1

section
variable {a a' : Acquisition} {sl x : Slot}

/-- The ring stays as it is, and acquisition RUNNING only where it was. -/
theorem Slot.CopySound.of_acq (h : sl.CopySound a) (hcounter : a'.sampleCounter = a.sampleCounter)
    (hheld : a'.heldCount = a.heldCount) (hstate : a'.state = a.state ∨ a'.state = .idle) : sl.CopySound a' := by
  have hnew : a'.newest = a.newest := by rw [Acquisition.newest, Acquisition.newest, hcounter, hheld]
  refine ⟨?_, fun e g => ?_, ?_⟩
  · rw [hcounter, hheld]
    exact h.ring
  · exact hstate.elim (fun i => i.trans (h.flush e g)) id
  · rw [hnew]
    exact h.asks

/-- The check of R76 leaves a slot that does not have to ask (R76). -/
theorem Slot.CopySound.checked (h : sl.CopySound a) (hx : sl.Checked a.newest x) :
    x.CopySound a ∧ ¬ x.MustAsk a.newest := by
  obtain ⟨e, hask⟩ := hx
  rw [e] at *
  refine ⟨⟨h.ring, h.flush, fun g => ?_⟩, fun ⟨hf, hno, hlen, hrun⟩ => ?_⟩
  · obtain g | ⟨-, -, -, g⟩ := hask.1 g
    · exact h.asks g
    · show 1 ≤ sl.runTo a.newest
      omega
  · have hsl : sl.requestStanding = false := eq_false_of_ne_true fun g => by
      cases hno.symm.trans (hask.2 (.inl g))
    cases hno.symm.trans (hask.2 (.inr ⟨hf, hsl, hlen, hrun⟩))

theorem Slot.CopySound.checkRequest (h : sl.CopySound a) :
    (sl.checkRequest a).CopySound a ∧ ¬ (sl.checkRequest a).MustAsk a.newest :=
  h.checked (sl.checkRequest_checked a)

theorem Slot.copySound_ended (hf : x.state ≠ .filling) (hask : x.requestStanding = false) (a : Acquisition) :
    x.CopySound a ∧ ¬ x.MustAsk a.newest :=
  ⟨Slot.copySound_of_not_filling hf hask a, fun m => hf m.1⟩

theorem Slot.copySound_close (c : CaptureStatus) (sl : Slot) (a : Acquisition) :
    (sl.close c).CopySound a ∧ ¬ (sl.close c).MustAsk a.newest := by
  rw [Slot.close_eq]
  refine Slot.copySound_ended ?_ rfl a
  dsimp only
  split <;> simp

/-- An arrival that overwrites what a slot has still to copy ends it; else what it has to copy stays in the ring (R82). -/
theorem Slot.CopySound.onArrival (h : sl.CopySound a) (hs : sl.Sound) (hheld : a.heldCount ≤ 2048)
    (hrun : a.state = .running) (word : Word) (tick : Tick) :
    (sl.onArrival (a.accept word tick) a.overwritten).CopySound (a.accept word tick) ∧
      ¬ (sl.onArrival (a.accept word tick) a.overwritten).MustAsk (a.accept word tick).newest := by
  by_cases hf : sl.state = .filling
  · obtain ⟨h1, hcopied, hpresent⟩ := h.ring hf
    have hno : sl.flushing = false := eq_false_of_ne_true fun g => by cases hrun.symm.trans (h.flush hf g)
    have hshort := (hs.window (by simp [hf])).short
    obtain ⟨-, -, -, -, hfill, -, -⟩ := hs
    obtain ⟨hnext, -, -⟩ := hfill hf
    have hcounter : sl.pos (a.accept word tick).sampleCounter = sl.pos a.sampleCounter + 1 :=
      sl.pos_add (n := 1) (by omega)
    have hnew : sl.runTo (a.accept word tick).newest =
        min (sl.pos sl.windowEnd) (sl.pos a.sampleCounter) + 1 - sl.pos sl.nextToCopy := by
      rw [a.accept_newest word tick]
      rfl
    have arrived (hroom : sl.pos a.sampleCounter + 1 ≤ sl.pos sl.nextToCopy + (a.accept word tick).heldCount) :
        sl.CopySound (a.accept word tick) := by
      refine ⟨fun _ => ?_, fun _ => h.flush hf, fun _ => ?_⟩
      · rw [hcounter]
        exact ⟨by omega, by omega, hroom⟩
      · rw [hnew]
        omega
    unfold Slot.onArrival
    rw [if_pos hf]
    by_cases hfull : a.heldCount = Config.ringDepth
    · have hcount : (a.accept word tick).heldCount = a.heldCount := if_pos hfull
      have hover : a.overwritten = some (a.sampleCounter - BitVec.ofNat 48 Config.ringDepth) := if_pos hfull
      rw [hover]
      dsimp only
      by_cases hneed : sl.flushing = false ∧ sl.needs (a.sampleCounter - BitVec.ofNat 48 Config.ringDepth) = true
      · rw [if_pos hneed]
        exact Slot.copySound_close _ _ _
      · rw [if_neg hneed]
        refine (arrived ?_).checkRequest
        by_contra hlow
        refine hneed ⟨hno, ?_⟩
        rw [hfull] at hpresent
        rw [hcount, hfull] at hlow
        simp only [Config.ringDepth] at hlow hpresent
        have hpos := sl.pos_sub (k := a.sampleCounter) (n := 2048) (by omega)
        simp only [Slot.needs, Config.ringDepth, hpos, Bool.and_eq_true, decide_eq_true_eq]
        omega
    · have hcount : (a.accept word tick).heldCount = a.heldCount + 1 := if_neg hfull
      have hover : a.overwritten = none := if_neg hfull
      rw [hover]
      refine (arrived ?_).checkRequest
      rw [hcount]
      omega
  · have e : sl.onArrival (a.accept word tick) a.overwritten = sl := Slot.onArrival_of_not_filling hf _ _
    rw [e]
    exact Slot.copySound_ended hf (hs.not_standing hf) _

/-- The cut of an end-of-run notice that names the newest sample (R84). -/
theorem Slot.CopySound.cutAt {n : SampleNo} (h : sl.CopySound a) (hidle : a.state = .idle) (hn : a.newest = some n)
    (hx : sl.CutAt a.newest n x) : x.CopySound a ∧ ¬ x.MustAsk a.newest := by
  unfold Slot.CutAt at hx
  dsimp only at hx
  split at hx
  · split at hx
    next hle =>
      refine Slot.CopySound.checked
        (sl := { sl with windowEnd := n, status := some (sl.status.getD .truncated), flushing := true })
        ⟨h.ring, fun _ _ => hidle, fun _ => ?_⟩ hx
      rw [hn]
      show 1 ≤ min (sl.pos n) (sl.pos n) + 1 - sl.pos sl.nextToCopy
      omega
    next =>
      rw [hx]
      refine Slot.copySound_ended ?_ rfl a
      dsimp only
      split <;> simp
  · exact h.checked hx

/-- A grant sends entries of the present run, and so none that has not arrived (R78). -/
theorem Slot.CopySound.onGrant (h : sl.CopySound a) (hs : sl.Sound) (hask : sl.requestStanding = true) (tag : Tag) :
    (sl.onGrant a tag).CopySound a ∧ ¬ (sl.onGrant a tag).MustAsk a.newest := by
  have hf : sl.state = .filling := by
    obtain ⟨-, -, -, hstand, -⟩ := hs
    exact (hstand hask).1
  obtain ⟨-, e⟩ | ⟨-, e⟩ := Slot.onGrant_cases hs hf tag (a := a) <;> rw [e]
  · exact Slot.copySound_ended (by simp) rfl a
  · obtain ⟨hpos, -, -⟩ := Slot.sent_pos hs hf (Nat.min_le_right 16 (sl.runTo a.newest)) tag
    obtain ⟨h1, hcopied, hpresent⟩ := h.ring hf
    have hrun : sl.runTo a.newest ≤ sl.pos a.sampleCounter - sl.pos sl.nextToCopy := by
      cases hn : a.newest with
      | none => exact Nat.zero_le _
      | some n =>
        have := Slot.pos_newest hn h1
        simp only [Slot.runTo]
        omega
    have hsent : (sl.sent tag (min 16 (sl.runTo a.newest))).CopySound a := by
      refine ⟨fun _ => ?_, h.flush, fun g => (nomatch g)⟩
      rw [hpos]
      show 1 ≤ sl.pos a.sampleCounter ∧ _ ≤ sl.pos a.sampleCounter ∧ sl.pos a.sampleCounter ≤ _
      omega
    exact hsent.checkRequest

/-- An answer counts entries, and a slot whose list gets shorter is checked (R80). -/
theorem Slot.CopySound.onResponse (h : sl.CopySound a) (hs : sl.Sound) (hno : ¬ sl.MustAsk a.newest) (tag : Tag)
    (ans : Answer) : (sl.onResponse a tag ans).CopySound a ∧ ¬ (sl.onResponse a tag ans).MustAsk a.newest := by
  cases hstate : sl.state with
  | free | posting =>
    simp only [Slot.onResponse, hstate]
    exact ⟨h, hno⟩
  | closing =>
    rw [Slot.onResponse_closing hstate]
    refine Slot.copySound_ended ?_ (by exact hs.not_standing (by simp [hstate])) a
    dsimp only
    split <;> simp
  | filling =>
    cases ans with
    | error =>
      rw [Slot.onResponse_filling_error hstate]
      refine Slot.copySound_ended ?_ rfl a
      dsimp only
      split <;> simp
    | ok =>
      rw [Slot.onResponse_filling_ok hstate]
      have hanswered : (sl.answered tag .ok).CopySound a := ⟨h.ring, h.flush, h.asks⟩
      by_cases hshorter : (sl.answered tag .ok).bursts.length < sl.bursts.length
      · rw [if_pos hshorter]
        exact hanswered.checkRequest
      · rw [if_neg hshorter]
        refine ⟨hanswered, fun ⟨hf, hstand, hlen, hrun⟩ => hno ⟨hf, hstand, ?_, hrun⟩⟩
        omega

/-- An allocated slot's window starts in the ring (R72, R75). -/
theorem Slot.copySound_allocated {mark : Option SampleNo} {w : WatchId} {k : SampleNo} {pre post : Nat} {d : Descriptor}
    (hpre : pre ≤ 1024) (hpost : post < 2 ^ 16) (hd : d.Legal) (hheld : a.heldCount ≤ 2048) (hk : a.newest = some k)
    (hmark : mark ≠ none → a.state = .idle) : (Slot.allocated a mark w k pre post d).CopySound a := by
  obtain ⟨⟨-, -, -, -, -, -, -, -, hask⟩, -, hstart, hnext, -, -, hnone, -⟩ :=
    captureWindow a mark w k pre post d hpre (by omega) hd
  obtain ⟨hne, rfl⟩ : a.heldCount ≠ 0 ∧ k = a.sampleCounter - 1 := by
    unfold Acquisition.newest at hk
    split at hk
    · cases hk
    next hne => exact ⟨hne, (Option.some.inj hk).symm⟩
  refine ⟨fun _ => ?_, fun _ hflush => hmark ?_, fun e => (nomatch hask.symm.trans e)⟩
  · simp only [Slot.pos]
    rw [hnext, hstart, BitVec.sub_self]
    have hback : (a.sampleCounter - 1 - a.floor).toNat = a.heldCount - 1 := by
      have e : a.sampleCounter - 1 - a.floor = BitVec.ofNat 48 a.heldCount - 1 := by
        unfold Acquisition.floor
        ring
      rw [e, BitVec.toNat_sub, BitVec.toNat_ofNat]
      have : (1 : SampleNo).toNat = 1 := rfl
      omega
    rw [hback]
    have hdist : (a.sampleCounter -
        if pre ≤ a.heldCount - 1 then a.sampleCounter - 1 - BitVec.ofNat 48 pre else a.floor).toNat =
        if pre ≤ a.heldCount - 1 then pre + 1 else a.heldCount := by
      split
      · have e : a.sampleCounter - (a.sampleCounter - 1 - BitVec.ofNat 48 pre) = BitVec.ofNat 48 pre + 1 := by ring
        rw [e, BitVec.toNat_add, BitVec.toNat_ofNat]
        have : (1 : SampleNo).toNat = 1 := rfl
        omega
      · have e : a.sampleCounter - a.floor = BitVec.ofNat 48 a.heldCount := by
          unfold Acquisition.floor
          ring
        rw [e, BitVec.toNat_ofNat]
        omega
    rw [hdist]
    have : (0#48).toNat = 0 := rfl
    split <;> omega
  · rintro rfl
    obtain ⟨-, hno, -⟩ := hnone rfl
    cases hno.symm.trans hflush

end

/-! ### Every slot, at every event -/

/-- CopiesSound, slot by slot. -/
structure State.Copies (s : State) : Prop where
  slots : ∀ i, (s.slot i).CopySound s.acq
  device : ∀ i, (s.slot i).state = .filling → s.ctl.device ≠ .disabled ∧ s.ctl.device ≠ .starting
  asked : s.ctl.device = .enabled → ∀ i, ¬ (s.slot i).MustAsk s.acq.newest
  mark : s.eng.presented ≠ none → s.cap.runEndMark ≠ none → s.acq.state = .idle

theorem State.copiesSound_iff (s : State) : s.CopiesSound ↔ s.Copies := by
  constructor
  · rintro ⟨hfill, hask, hmust, hmark⟩
    exact ⟨fun i => ⟨fun e => (hfill i e).1, fun e => (hfill i e).2.1, hask i⟩, fun i e => (hfill i e).2.2, hmust, hmark⟩
  · rintro ⟨hslots, hdev, hmust, hmark⟩
    exact ⟨fun i e => ⟨(hslots i).ring e, (hslots i).flush e, hdev i e⟩, fun i => (hslots i).asks, hmust, hmark⟩

/-- What the slots' copies depend on is the same, but that acquisition may have become IDLE and the sample closed. -/
structure State.CopiesKept (s t : State) : Prop where
  slots : t.cap.slots = s.cap.slots
  runEndMark : t.cap.runEndMark = s.cap.runEndMark
  counter : t.acq.sampleCounter = s.acq.sampleCounter
  held : t.acq.heldCount = s.acq.heldCount
  state : t.acq.state = s.acq.state ∨ t.acq.state = .idle
  device : t.ctl.device = s.ctl.device
  presented : t.eng.presented ≠ none → s.eng.presented ≠ none

theorem State.CopiesKept.slot {s t : State} (k : s.CopiesKept t) (i : SlotId) : t.slot i = s.slot i :=
  congrArg (tget · i) k.slots

theorem State.CopiesKept.newest {s t : State} (k : s.CopiesKept t) : t.acq.newest = s.acq.newest := by
  rw [Acquisition.newest, Acquisition.newest, k.counter, k.held]

theorem State.Copies.of_kept {s t : State} (h : s.Copies) (k : s.CopiesKept t) : t.Copies where
  slots i := k.slot i ▸ (h.slots i).of_acq k.counter k.held k.state
  device i e := by
    rw [k.device]
    exact h.device i (k.slot i ▸ e)
  asked e i := by
    rw [k.slot, k.newest]
    exact h.asked (k.device ▸ e) i
  mark e g := by
    have hidle := h.mark (k.presented e) (k.runEndMark ▸ g)
    exact k.state.elim (fun e => e.trans hidle) id

/-- With no slot FILLING the ring does not matter. -/
theorem State.SlotsSound.copies {t : State} (h : t.SlotsSound) (hnone : ∀ i, (t.slot i).state ≠ .filling)
    (hmark : t.eng.presented ≠ none → t.cap.runEndMark ≠ none → t.acq.state = .idle) : t.Copies :=
  ⟨fun i => Slot.copySound_of_not_filling (hnone i) ((h i).not_standing (hnone i)) _, fun i e => absurd e (hnone i),
    fun _ i m => hnone i m.1, hmark⟩

/-- A START is taken only with no slot FILLING and no sample outstanding (R60). -/
theorem State.Copies.checkStart {s : State} (h : s.Copies) (hs : s.SlotsSound) : s.checkStart.Copies := by
  obtain ⟨hready, e⟩ | ⟨-, e⟩ := s.checkStart_cases <;> rw [e]
  · obtain ⟨-, -, hnone, hfilling, -⟩ := (State.startReady_iff s).1 hready
    have htaken : s.takeStart.SlotsSound := hs.of_slots rfl
    exact htaken.copies hfilling fun g => absurd hnone g
  · exact h

/-- A slot replaced by one that keeps what it has to copy in the ring. -/
theorem State.Copies.setSlot {s : State} (h : s.Copies) {i : SlotId} {x : Slot} (hx : x.CopySound s.acq)
    (hmust : s.ctl.device = .enabled → ¬ x.MustAsk s.acq.newest)
    (hf : x.state = .filling → s.ctl.device ≠ .disabled ∧ s.ctl.device ≠ .starting) : (s.setSlot i x).Copies := by
  refine ⟨fun j => ?_, fun j e => ?_, fun e j => ?_, h.mark⟩
  · rw [State.setSlot_slot]
    split
    · exact hx
    · exact h.slots j
  · rw [State.setSlot_slot] at e
    split at e
    next => exact hf e
    next => exact h.device j e
  · rw [State.setSlot_slot]
    split
    · exact hmust e
    · exact h.asked e j

/-- The requests of an evaluation allocate slots whose windows start in the ring (R70, R72). -/
theorem State.Copies.requested {s : State} (h : s.Copies) (hs : s.CapturesSound) (hheld : s.acq.heldCount ≤ 2048)
    {p : PresentedSample} (hd : s.ctl.device = .enabled) (hnew : s.acq.newest = some p.number)
    (hmark : s.cap.runEndMark ≠ none → s.acq.state = .idle) (i : SlotId) :
    ((s.requested p).slot i).CopySound s.acq ∧ ¬ ((s.requested p).slot i).MustAsk s.acq.newest := by
  obtain ⟨-, hcache, hconfig⟩ := hs
  obtain e | ⟨-, w, d, hmem, e⟩ := State.requested_slot_cases p hd i <;> rw [e]
  · exact ⟨h.slots i, h.asked hd i⟩
  · obtain ⟨-, -, hpre, hpost, -⟩ := hconfig w
    exact (Slot.copySound_allocated hpre hpost (hcache d hmem) hheld hnew hmark).checkRequest

theorem State.Copies.evaluateSample {s : State} (h : s.Copies) (hs : s.CapturesSound) (hheld : s.acq.heldCount ≤ 2048)
    {p : PresentedSample} (hd : s.ctl.device = .enabled) (hnew : s.acq.newest = some p.number)
    (hmark : s.cap.runEndMark ≠ none → s.acq.state = .idle) : (s.evaluateSample p).Copies := by
  have hreq := h.requested hs hheld hd hnew hmark
  have hslots : (s.evaluated p).SlotsSound := hs.evaluated p hd
  rw [s.evaluateSample_eq, State.closeSample_eq]
  refine State.Copies.checkStart (s := s.evaluated p) ?_ hslots
  have hclosed : (s.evaluated p).eng.presented = none := by rw [s.evaluated_eng p]
  have hdev : (s.evaluated p).ctl.device = .enabled := by
    rw [s.evaluated_frame p]
    exact hd
  have hslot := s.evaluated_slot p
  obtain ⟨hhalted, hkept⟩ := s.evaluated_acq p
  have copied : ∀ i, ((s.evaluated p).slot i).CopySound (s.evaluated p).acq ∧
      ¬ ((s.evaluated p).slot i).MustAsk (s.evaluated p).acq.newest := by
    intro i
    obtain ⟨hcopy, hmust⟩ := hreq i
    have hslot := hslot i
    cases hh : s.haltTaken p with
    | true =>
      obtain ⟨hrun, w, hw⟩ := State.haltTaken_eq_true.1 hh
      rw [hh, if_pos rfl] at hslot
      rw [hhalted w hw hrun]
      exact Slot.CopySound.cutAt (hcopy.of_acq rfl rfl (.inr rfl)) rfl hnew hslot
    | false =>
      rw [hh, if_neg (by decide)] at hslot
      rw [hslot, hkept hh]
      exact ⟨hcopy, hmust⟩
  exact ⟨fun i => (copied i).1, fun _ _ => by rw [hdev]; decide, fun _ i => (copied i).2, fun g => absurd hclosed g⟩

/-! ### Leaving ENABLED, and the passages -/

/-- Stopped slots ask for nothing, and keep what they have copied (R93, R95). -/
theorem State.Copies.stopped {s t : State} (h : s.Copies) (hcap : t.cap = s.cap.stop)
    (hacq : t.acq = { s.acq with state := .idle, heldStart := false }) (hclosed : t.eng.presented = none)
    (hd : t.ctl.device ≠ .disabled ∧ t.ctl.device ≠ .starting ∧ t.ctl.device ≠ .enabled) : t.Copies := by
  have hslot (i : SlotId) : t.slot i = { s.slot i with requestStanding := false } := by
    rw [State.slot, hcap]
    exact s.stop_slot i
  refine ⟨fun i => ?_, fun i _ => ⟨hd.1, hd.2.1⟩, fun e => absurd e hd.2.2, fun e => absurd hclosed e⟩
  rw [hslot, hacq]
  exact ⟨(h.slots i).ring, fun _ _ => rfl, fun e => (nomatch e)⟩

theorem State.Copies.enterFaulted {s : State} (h : s.Copies) (code : FaultCode) : (s.enterFaulted code).Copies := by
  obtain ⟨hclosed, -⟩ := s.stopBlocks_closed .faulted
  rw [s.enterFaulted_eq]
  exact h.stopped rfl rfl hclosed ⟨by simp, by simp, by simp⟩

theorem State.Copies.left {s : State} (h : s.Copies) {d : DeviceState} (hd : d = .stopping ∨ d = .resetting) :
    (s.left d).Copies := by
  have hne : d ≠ .enabled := by obtain rfl | rfl := hd <;> decide
  obtain ⟨hclosed, -⟩ := s.stopBlocks_closed d
  rw [s.left_eq hne]
  refine h.stopped rfl rfl hclosed ?_
  obtain rfl | rfl := hd <;> simp

theorem State.copies_cleared {t : State} (hcap : t.cap = .cleared) (hclosed : t.eng.presented = none) : t.Copies := by
  refine (State.slotsSound_cleared hcap).copies (fun i e => ?_) fun e => absurd hclosed e
  rw [State.slot, hcap, show tget CaptureUnit.cleared.slots i = .freeSlot from tget_replicate _ i] at e
  cases e

theorem State.Copies.endPassage {s : State} (h : s.Copies) : s.endPassage.Copies := by
  obtain ⟨-, -, e⟩ | ⟨-, -, e⟩ | ⟨-, e⟩ := s.endPassage_cases <;> rw [e]
  · exact State.copies_cleared rfl rfl
  · exact State.copies_cleared rfl rfl
  · exact h

/-! ### Answers and choices -/

theorem State.Delivered.copies {s t : State} {tag : Tag} {ans : Answer} {data : ReadData} {q : Requester}
    (h : s.Delivered tag ans data q t) (hs : s.Copies) (hslots : s.SlotsSound) : t.Copies := by
  have kept {u : State} (k : s.CopiesKept u) : u.Copies := hs.of_kept k
  cases h with
  | setupFailed code _ _ => exact State.Copies.enterFaulted (kept (by exact ⟨rfl, rfl, rfl, rfl, .inl rfl, rfl, id⟩)) code
  | recordFailed _ _ _ => exact State.Copies.enterFaulted (kept (by exact ⟨rfl, rfl, rfl, rfl, .inl rfl, rfl, id⟩)) _
  | batchFailed b _ _ _ => exact State.Copies.enterFaulted (kept (by exact ⟨rfl, rfl, rfl, rfl, .inl rfl, rfl, id⟩)) _
  | eventFailed _ _ => exact State.Copies.enterFaulted (kept (by exact ⟨rfl, rfl, rfl, rfl, .inl rfl, rfl, id⟩)) _
  | setupTaken hd _ _ =>
    have hnone (i : SlotId) : (s.slot i).state ≠ .filling := fun e => (hs.device i e).2 hd
    have hslots' : ((s.withCtl { s.ctl with setupRequest := .none }).enterEnabled (setupOf data)).SlotsSound :=
      hslots.of_slots rfl
    exact hslots'.copies hnone fun e => absurd rfl e
  | batchTaken b _ _ _ =>
    rw [State.bqRead_ok_frame]
    exact kept ⟨rfl, rfl, rfl, rfl, .inl rfl, rfl, id⟩
  | eventWritten _ _ =>
    rw [State.eqWritten_ok_frame]
    exact kept ⟨rfl, rfl, rfl, rfl, .inl rfl, rfl, id⟩
  | burstAnswered i hd =>
    obtain ⟨hcopy, hmust⟩ := (hs.slots i).onResponse (hslots i) (hs.asked hd i) tag ans
    exact State.Copies.checkStart (hs.setSlot hcopy (fun _ => hmust) fun _ => by simp [hd])
      (hslots.setSlot ((hslots i).onResponse _ _ _))
  | burstAnsweredFaulted i hd =>
    refine hs.setSlot ⟨(hs.slots i).ring, (hs.slots i).flush, (hs.slots i).asks⟩ (fun e => ?_) fun _ => by simp [hd]
    cases hd.symm.trans e
  | burstAnsweredLeaving i hd =>
    refine hs.setSlot ⟨(hs.slots i).ring, (hs.slots i).flush, (hs.slots i).asks⟩ (fun e => ?_) fun _ => ?_
    · obtain hd | hd := hd <;> cases hd.symm.trans e
    · obtain hd | hd := hd <;> simp [hd]
  | burstDropped i _ => exact hs
  | setupAbsorbed _ | commandAbsorbed _ | recordTaken _ _ _ | snapshotAnswered _ _ | batchAbsorbed _
  | eventAbsorbed _ _ | eventWrittenFaulted _ _ | eventFailedFaulted _ _ =>
    exact kept ⟨rfl, rfl, rfl, rfl, .inl rfl, rfl, id⟩

theorem State.Copies.itemChosen {s : State} (h : s.Copies) (hs : s.SlotsSound) (x : EventContent) :
    (s.itemChosen x).Copies := by
  cases x with
  | captureDone d =>
    have freed : (s.setSlot d.slot .freeSlot).Copies :=
      h.setSlot (Slot.copySound_of_not_filling (sl := .freeSlot) (by decide) rfl _) (fun _ m => absurd m.1 (by decide))
        fun e => (nomatch e)
    refine freed.of_kept ?_
    rw [State.itemChosen, State.captureDoneChosen_frame]
    exact ⟨rfl, rfl, rfl, rfl, .inl rfl, rfl, id⟩
  | acqHalt r =>
    exact State.Copies.checkStart (s := s.withAcq { s.acq with pendingHalt := none })
      (h.of_kept ⟨rfl, rfl, rfl, rfl, .inl rfl, rfl, id⟩) (hs.of_slots rfl)
  | bufferReject r =>
    rw [State.itemChosen, State.checkBufferFetch_eq]
    exact h.of_kept ⟨rfl, rfl, rfl, rfl, .inl rfl, rfl, id⟩
  | cmdDone d | watchReport r => exact h.of_kept ⟨rfl, rfl, rfl, rfl, .inl rfl, rfl, id⟩

/-- R75, R76, R78, R82 to R85: every event keeps in the ring what the slots have still to copy, and every slot that has to
ask asks. -/
theorem State.Event.copies {c : Instr} {s t : State} (h : s.Event c t) (hs : s.Copies) (hring : s.RingSound)
    (hrun : s.RunSound) (hcap : s.CapturesSound) : t.Copies := by
  have hslots : s.SlotsSound := hcap.1
  have kept {u : State} (k : s.CopiesKept u) : u.Copies := hs.of_kept k
  have noticed (e : WatchEngine) (he : e.presented = s.eng.presented) : (s.withEng e).Copies :=
    kept ⟨rfl, rfl, rfl, rfl, .inl rfl, rfl, fun g => by rwa [← he]⟩
  obtain ⟨-, hheld⟩ := hring
  obtain ⟨-, -, -, hpresented, -⟩ := hrun
  cases h with
  | arrived word hacc =>
    obtain ⟨hd, hrunning, -⟩ := State.acceptsEdge_iff.1 hacc
    have hslot (i : SlotId) : (s.arrive word).slot i = (s.slot i).onArrival (s.acq.accept word s.tick) s.acq.overwritten :=
      tget_tmap _ _ i
    have arrived (i : SlotId) := (hs.slots i).onArrival (hslots i) hheld hrunning word s.tick
    refine ⟨fun i => ?_, fun i _ => ?_, fun _ i => ?_, fun _ e => absurd rfl e⟩
    · rw [hslot]
      exact (arrived i).1
    · have : (s.arrive word).ctl.device = .enabled := hd
      simp [this]
    · rw [hslot]
      exact (arrived i).2
  | evaluated p hd hp _ =>
    obtain ⟨-, hnew, -⟩ := hpresented p hp
    exact hs.evaluateSample hcap hheld hd hnew (hs.mark (by simp [hp]))
  | startHeld _ cur _ _ =>
    exact State.Copies.checkStart (s := s.withAcq { s.acq with heldStart := true })
      (kept ⟨rfl, rfl, rfl, rfl, .inl rfl, rfl, id⟩) (hslots.of_slots rfl)
  | startTaken hready =>
    rw [← State.checkStart_of_ready hready]
    exact hs.checkStart hslots
  | stopped cur hdisp _ =>
    have ended (a : Acquisition) (n : Option SampleNo) (hidle : a.state = .idle)
        (hcounter : a.sampleCounter = s.acq.sampleCounter) (heldSame : a.heldCount = s.acq.heldCount) (hn : n = a.newest) :
        (((s.withAcq a).withCap (s.cap.onEndOfRun a n)).complete .ok).Copies := by
      have hidled : (s.withAcq a).Copies := kept ⟨rfl, rfl, hcounter, heldSame, .inr hidle, rfl, id⟩
      cases n with
      | none => exact hidled.of_kept ⟨rfl, rfl, rfl, rfl, .inl rfl, rfl, id⟩
      | some k =>
        have hslot (i : SlotId) : (((s.withAcq a).withCap (s.cap.onEndOfRun a (some k))).complete .ok).slot i =
            (s.slot i).onEndOfRun a k := tget_tmap _ _ i
        have cut (i : SlotId) := (hidled.slots i).cutAt hidle hn.symm ((s.slot i).onEndOfRun_cutAt a k)
        have hdev : s.ctl.device = .enabled := (State.dispatched_eq_some.1 hdisp).1
        refine ⟨fun i => ?_, fun i _ => ?_, fun _ i => ?_, fun _ _ => hidle⟩
        · rw [hslot]
          exact (cut i).1
        · rw [State.complete_ctl, State.withCap_ctl, State.withAcq_ctl, hdev]
          decide
        · rw [hslot]
          exact (cut i).2
    exact ended _ _ rfl rfl rfl rfl
  | cancelTaken cur named hdisp _ _ _ =>
    have hdev : s.ctl.device = .enabled := (State.dispatched_eq_some.1 hdisp).1
    have cancelled (f : SlotId → Bool) (x : CancelProgress) :
        (s.withCap { s.cap with slots := tmap (fun i sl => sl.onCancel (f i)) s.cap.slots, cancelling := some x }).Copies := by
      have hslot (i : SlotId) :
          (s.withCap { s.cap with slots := tmap (fun i sl => sl.onCancel (f i)) s.cap.slots, cancelling := some x }).slot i =
            (s.slot i).onCancel (f i) := tget_tmap _ _ i
      have copied (i : SlotId) : ((s.slot i).onCancel (f i)).CopySound s.acq ∧
          ¬ ((s.slot i).onCancel (f i)).MustAsk s.acq.newest := by
        unfold Slot.onCancel
        split
        · exact Slot.copySound_close _ _ _
        · exact ⟨hs.slots i, hs.asked hdev i⟩
      refine ⟨fun i => ?_, fun i _ => ?_, fun _ i => ?_, hs.mark⟩
      · rw [hslot]
        exact (copied i).1
      · rw [State.withCap_ctl, hdev]
        decide
      · rw [hslot]
        exact (copied i).2
    exact cancelled _ _
  | granted q tag hd hq _ =>
    cases q with
    | slot i =>
      have hask : (s.slot i).requestStanding = true := (State.nextRequester_eligible hq).1
      obtain ⟨hcopy, hmust⟩ := (hs.slots i).onGrant (hslots i) hask tag
      have hfilling : (s.slot i).state = .filling := by
        by_contra e
        cases ((hslots i).not_standing e).symm.trans hask
      have hgranted : (s.setSlot i ((s.slot i).onGrant s.acq tag)).Copies :=
        hs.setSlot hcopy (fun _ => hmust) fun _ => hs.device i hfilling
      rw [State.issueGrant_slot]
      refine State.Copies.checkStart (hgranted.of_kept ⟨rfl, rfl, rfl, rfl, .inl rfl, rfl, id⟩) ?_
      exact (hslots.setSlot ((hslots i).onGrant hask s.acq tag)).of_slots rfl
    | control | command | fetcher | writer => exact kept ⟨rfl, rfl, rfl, rfl, .inl rfl, rfl, id⟩
  | entryEnded _ q tag size e x ans data u _ _ hu =>
    have hset : (s.setEntry tag x).Copies := kept ⟨rfl, rfl, rfl, rfl, .inl rfl, rfl, id⟩
    exact (hu.copies hset (hslots.of_slots rfl)).endPassage
  | chosen x _ _ => exact (hs.itemChosen hslots x).of_kept ⟨rfl, rfl, rfl, rfl, .inl rfl, rfl, id⟩
  | rangeFault _ code _ _ => exact hs.enterFaulted code
  | cqTailRaised v _ _ =>
    rw [State.checkCommandFetch_frame]
    exact kept ⟨rfl, rfl, rfl, rfl, .inl rfl, rfl, id⟩
  | bqTailRaised v _ _ =>
    rw [State.checkBufferFetch_eq]
    exact kept ⟨rfl, rfl, rfl, rfl, .inl rfl, rfl, id⟩
  | enabledWritten _ v _ _ _ hd =>
    have hstarting : s.enterStarting.SlotsSound := hslots.of_slots rfl
    exact hstarting.copies (fun i e => (hs.device i e).1 hd) hs.mark
  | resetWritten _ v _ _ _ => exact (hs.left (.inr rfl)).endPassage
  | disabledWritten _ v _ _ _ _ => exact (hs.left (.inl rfl)).endPassage
  | pinMoved _ level _ => exact State.copies_cleared rfl rfl
  | ticked _ =>
    have tick {u : State} (hu : u.Copies) (x : Tick) : (u.withTick x).Copies :=
      hu.of_kept ⟨rfl, rfl, rfl, rfl, .inl rfl, rfl, id⟩
    refine tick ?_ _
    obtain ⟨p, hp, hd, -, e⟩ | ⟨-, e⟩ := s.endDueEvaluation_cases
    · obtain ⟨-, hnew, -⟩ := hpresented p hp
      have hmark := hs.mark (by simp [hp])
      rw [e]
      split
      · have evaluated (e : WatchEngine) (he : e.presented = s.eng.presented) (hc : (s.withEng e).CapturesSound) :
            ((s.withEng e).evaluateSample p).Copies :=
          (noticed e he).evaluateSample hc hheld hd hnew hmark
        exact evaluated _ s.eng.takeNotice_presented hcap.takeNotice
      · exact hs.evaluateSample hcap hheld hd hnew hmark
    · rwa [e]
  | noticeTaken _ _ _ => exact noticed _ s.eng.takeNotice_presented
  | _ => exact kept ⟨rfl, rfl, rfl, rfl, .inl rfl, rfl, id⟩

/-- Settles O30: the slots, the lists and the copies, each by its own invariant. -/
theorem captureUnitStaysSound : Obligations.CaptureUnitStaysSound := by
  intro c s t h
  have hevent := State.event_of_exec h
  refine ⟨capturesSound_of_exec h, fun hs => ?_, fun hring hrun hcap hs => ?_⟩
  · exact (State.supplySound_iff t).2 (hevent.supplySteps.sound ((State.supplySound_iff s).1 hs))
  · exact (State.copiesSound_iff t).2 (hevent.copies ((State.copiesSound_iff s).1 hs) hring hrun hcap)

end Sys2Proof.Machine
end
